-- ==== Sys2Proof/Word.lean ====
section
/-! DEFINITION. The words of the JX10 (spec/00_scope.md, Conventions). What the manual counts stays a
plain Nat: a station number (1 to 254), a wearer number (1 to 15; 0 means none on the air), and a
reading of the timer base in its resolution of 10 µs. -/

namespace Sys2Proof

/-- One byte of a frame, a report or the configuration image. -/
abbrev Byte := BitVec 8

/-- One audio sample: 16-bit signed linear (Conventions, Audio). -/
abbrev Sample := BitVec 16

/-- A block sequence number: 16 bits, modular (Conventions, Block sequence numbers). -/
abbrev Seq := BitVec 16

end Sys2Proof
end

