-- ==== Sys2Proof/Config.lean ====
section
/-! DEFINITION. What the manual leaves free: the random draws of the medium access procedure. -/

namespace Sys2Proof

/-- The free value behind the `n`-th backoff draw. R6 draws the backoff count "uniformly from 0 to
CW - 1": the Link Port takes this value modulo CW (assumption 3). It has no body, so no proof can
know a draw. -/
opaque Config.backoffDraw (n : Nat) : Nat

end Sys2Proof
end

