-- ==== Sys2Proof/Syntax.lean ====
section
/-! DEFINITION. The commands of the JX10: one constructor per row of spec/opcode_table.json. -/

namespace Sys2Proof

/-- The four request kinds, numbered as in chapter 8: ANSWER 0, HANGUP 1, FLOOR 2, YIELD 3. -/
inductive ReqKind where
  | answer | hangup | floor | yield
  deriving DecidableEq, Repr

/-- The two kinds that have a call latch (R156) and that DONE may name (R157). -/
inductive LatchKind where
  | answer | hangup
  deriving DecidableEq, Repr

/-- A block: 32 consecutive samples, 2 ms of audio (Conventions, Audio). -/
structure Block where
  samples : List Sample
  len : samples.length = 32
  deriving DecidableEq, Repr

/-- The 72 bytes read from the serial memory (R180, R182). -/
structure Image where
  bytes : List Byte
  len : bytes.length = 72
  deriving DecidableEq, Repr

/-- The commands, events and timer expiries that the JX10 takes (spec/opcode_table.json). -/
inductive Instr where
  /-- RESET: RESET_N goes low and is held low (R180). -/
  | reset
  /-- RESET_RELEASE: the rising edge of RESET_N (R180). -/
  | resetRelease
  /-- LOADING_COMPLETE: the 72nd image byte has been read (R181). -/
  | loadingComplete (image : Image)
  /-- FRAME_ARRIVAL: the radio hands over the bytes of one frame and its check verdict (R1). -/
  | frameArrival (bytes : List Byte) (good : Bool)
  /-- MEDIUM_BUSY: the medium level changes to busy (R5). -/
  | mediumBusy
  /-- MEDIUM_IDLE: the medium level changes to idle (R5). -/
  | mediumIdle
  /-- QUIET_GAP_REACHED: in DEFER the medium has been idle for 150 µs (R7). -/
  | quietGapReached
  /-- BACKOFF_SLOT_END: a 50 µs slot of idle medium ends (R7). -/
  | backoffSlotEnd
  /-- SEND_DONE: the radio has put the last frame on the air (R10). -/
  | sendDone
  /-- TURNAROUND_EXPIRY: the turnaround timer expires (R11). -/
  | turnaroundExpiry
  /-- BLOCK_BOUNDARY: the codec has delivered a microphone block, the call port a downlink block (R57). -/
  | blockBoundary (mic call : Block)
  /-- AUDIO_READY_FALL (R44). -/
  | audioReadyFall
  /-- AUDIO_READY_RISE (R45). -/
  | audioReadyRise
  /-- JOIN command (R25). -/
  | join
  /-- LEAVE command (R41). -/
  | leave
  /-- MUTE_ON command (R46). -/
  | muteOn
  /-- MUTE_OFF command (R46). -/
  | muteOff
  /-- CALL_ON command (R128). -/
  | callOn
  /-- CALL_OFF command (R129). -/
  | callOff
  /-- REQ command of a kind (R146). -/
  | req (kind : ReqKind)
  /-- DONE command of kind ANSWER or HANGUP (R157). -/
  | done (kind : LatchKind)
  /-- STATUS command (R173). -/
  | status
  /-- UNKNOWN_COMMAND: a byte that names no valid command, or that lacks its stop bit (R171). -/
  | unknownCommand (byte : Byte) (stopBit : Bool)
  /-- REPORT_SENT: the last byte of the report being sent has gone out (R172). -/
  | reportSent
  /-- JOIN_WINDOW_EXPIRY: the join window timer expires (R26). -/
  | joinWindowExpiry
  /-- HAIL_TIMER_EXPIRY: the 50 ms hail timer expires (R70). -/
  | hailTimerExpiry
  /-- PRESENCE_TIMER_EXPIRY: the presence timer reaches 100 ms (R69). -/
  | presenceTimerExpiry
  /-- PRESENCE_PROMOTION: a scheduled PRESENCE has been due for 100 ms (R69). -/
  | presencePromotion
  /-- PEER_LOSS_EXPIRY: 300 ms of silence of an ADMITTED peer (R35). -/
  | peerLossExpiry (station : Nat)
  /-- LOST_REMOVAL_EXPIRY: 5 s have passed since a peer became LOST (R36). -/
  | lostRemovalExpiry (station : Nat)
  /-- HAILED_EXPIRY: 1 s has passed since the last hail of a HAILED entry (R37). -/
  | hailedExpiry (station : Nat)
  /-- DEPARTED_HOLD_EXPIRY: the 10 s hold of a departed station expires (R40). -/
  | departedHoldExpiry (station : Nat)
  /-- SETTLE_EXPIRY: the 60 ms settle timer expires (R132). -/
  | settleExpiry
  /-- REQUEST_TIMEOUT: a slot's 2000 ms request timer expires (R149). -/
  | requestTimeout (kind : ReqKind)
  /-- FLOOR_GRANT_EXPIRY: the grant timer expires (R161). -/
  | floorGrantExpiry
  /-- FLOOR_VIEW_EXPIRY: the floor view timer expires (R167). -/
  | floorViewExpiry
  deriving DecidableEq, Repr

end Sys2Proof
end

