-- ==== Sys2Proof/Machine/State.lean ====
section
/-! DEFINITION. The state of the JX10, block by block as chapter 0 names the blocks, and its value
right after reset. -/

/-- 32 zero samples (R86, R104). -/
def Sys2Proof.Block.silence : Sys2Proof.Block := ⟨List.replicate 32 0#16, rfl⟩

namespace Sys2Proof.Machine

/-! ## Small shapes shared by the blocks -/

/-- One value for each request kind. -/
structure PerKind (α : Type) where
  answer : α
  hangup : α
  floor : α
  yield : α
  deriving DecidableEq, Repr

/-- One value for each kind that has a call latch. -/
structure PerLatch (α : Type) where
  answer : α
  hangup : α
  deriving DecidableEq, Repr

/-! ## What a frame says (sections 1.4 and 1.5) -/

/-- The four frame kinds (R14). -/
inductive FrameKind where
  | talk | presence | hail | leave
  deriving DecidableEq, Repr

/-- The status flags of a header (R15). -/
structure StatusFlags where
  lead : Bool
  muted : Bool
  isolated : Bool
  claim : Bool
  active : Bool
  deriving DecidableEq, Repr

/-- The part of a header that a peer entry keeps as its last-heard header (R20): status flags, mic
score (0 to 255) and request field (toggle and pending bit of each kind). -/
structure SenderState where
  flags : StatusFlags
  micScore : Nat
  toggles : PerKind Bool
  pending : PerKind Bool
  deriving DecidableEq, Repr

/-- The common header (R15, R18). -/
structure Header where
  kind : FrameKind
  group : BitVec 16
  station : Nat
  wearer : Nat
  seq : BitVec 8
  sender : SenderState
  deriving DecidableEq, Repr

/-- One entry of the echo list (R18, R155). -/
structure Echo where
  station : Nat
  toggles : PerKind Bool
  deriving DecidableEq, Repr

/-- The bridge extras (R18): floor holder station and wearer (0 for none), floor time remaining in
units of 100 ms, and the echo list. -/
structure Extras where
  holder : Nat
  holderWearer : Nat
  remaining : Nat
  echoes : List Echo
  deriving DecidableEq, Repr

/-- One block of a TALK section (R16, R18). -/
structure AirBlock where
  isStart : Bool
  isEnd : Bool
  level : Nat
  block : Block
  deriving DecidableEq, Repr

/-- A voice or call section (R16, R18). -/
structure TalkSection where
  first : Seq
  blocks : List AirBlock
  deriving DecidableEq, Repr

/-- What follows the header and the extras in each kind (R14). -/
inductive Body where
  | talk (voice call : TalkSection)
  | presence (roster : List Nat)
  | hail (code : BitVec 32) (heard : List Nat)
  | leave
  deriving DecidableEq, Repr

/-- A whole frame (R14): extras are present in a TALK or PRESENCE that shows ACTIVE. -/
structure Frame where
  header : Header
  extras : Option Extras
  body : Body
  deriving DecidableEq, Repr

/-! ## Link Port and Send Assembler -/

/-- The access states of the Link Port (section 1.1). -/
inductive Access where
  | idle | defer | sending | turnaround
  deriving DecidableEq, Repr

/-- The Link Port's state (R5 to R13). `slotEnd` is the reading at which the slot in progress ends,
while slots are counted in DEFER; `sendDoneAt` is the send-done that began TURNAROUND. `draws`
counts the backoff draws made: it is the model's own (assumption 3). -/
structure LinkPort where
  access : Access
  cw : Nat
  backoff : Option Nat
  idleMark : Option Nat
  slotEnd : Option Nat
  sendDoneAt : Option Nat
  framesSent : Nat
  checkFailures : Nat
  foreignFrames : Nat
  numberClashes : Nat
  draws : Nat
  deriving DecidableEq, Repr

/-- The tag of a send-queue entry (section 4.4). -/
inductive Tag where
  | voice | call
  deriving DecidableEq, Repr

/-- A send-queue entry (section 4.4). -/
structure SendEntry where
  tag : Tag
  seq : Seq
  block : Block
  level : Nat
  isStart : Bool
  isEnd : Bool
  deriving DecidableEq, Repr

/-- The Send Assembler's state (R66 to R75). Timers hold the reading at which they expire. -/
structure SendAssembler where
  queue : List SendEntry
  frameSeq : BitVec 8
  presenceTimer : Option Nat
  scheduledDue : Bool
  promotionTimer : Option Nat
  promptDue : Bool
  hailTimer : Option Nat
  hailDue : Bool
  leaveDue : Bool
  sendDrops : Nat
  deriving DecidableEq, Repr

/-! ## Capture Unit -/

/-- The spurt states (section 4.2). -/
inductive Spurt where
  | quiet | talking | hangover
  deriving DecidableEq, Repr

/-- The Capture Unit's state (R57 to R62); the mic score is computed from `avg` (R58). -/
structure CaptureUnit where
  captureCount : Seq
  avg : Nat
  spurt : Spurt
  hangover : Nat
  spurtSent : Bool
  deriving DecidableEq, Repr

/-! ## Receive Queues -/

/-- The playout states of a receive queue (R77). -/
inductive Playout where
  | idle | priming | playing
  deriving DecidableEq, Repr

/-- An entry of a receive queue (R76). -/
structure RxEntry where
  seq : Seq
  block : Block
  level : Nat
  isEnd : Bool
  deriving DecidableEq, Repr

/-- The last real block of a queue: its samples and level (R77). -/
structure RealBlock where
  block : Block
  level : Nat
  deriving DecidableEq, Repr

/-- The counts every queue keeps (R103). -/
structure QueueCounts where
  late : Nat
  slides : Nat
  resyncs : Nat
  concealed : Nat
  breaks : Nat
  deriving DecidableEq, Repr

/-- A receive queue and its playout record (R76, R77). In IDLE `next` has no value: it is kept at 0
and nothing reads it (assumption 12). -/
structure RxQueue where
  mode : Playout
  next : Seq
  primeWait : Nat
  conceal : Nat
  lastReal : Option RealBlock
  entries : List RxEntry
  counts : QueueCounts
  deriving DecidableEq, Repr

/-- The kind of a pending slip (R77). -/
inductive Slip where
  | drop | repeat
  deriving DecidableEq, Repr

/-- The downlink queue's slip state (R77). -/
structure SlipState where
  highRun : Nat
  lowRun : Nat
  pending : Option Slip
  wait : Nat
  deriving DecidableEq, Repr

/-- The downlink queue: a receive queue with a slip state and a slip count (R77, R103). -/
structure Downlink where
  queue : RxQueue
  slip : SlipState
  slips : Nat
  deriving DecidableEq, Repr

/-! ## Roster Unit -/

/-- The states of a peer entry (R19). -/
inductive PeerState where
  | hailed | admitted | lost
  deriving DecidableEq, Repr

/-- A peer entry (R20). `lostAt` is the reading at which the entry became LOST (R36). The late,
slide, resync, concealed and break counts stand in the voice queue (R103, assumption 18). -/
structure Peer where
  station : Nat
  wearer : Nat
  state : PeerState
  lastHeard : Nat
  lostAt : Option Nat
  lastSeq : BitVec 8
  header : SenderState
  roster : List Nat
  heard : List Nat
  hailedMe : Bool
  hailMark : Bool
  lastSeen : Option (PerKind Bool)
  frames : Nat
  missed : Nat
  queue : Option RxQueue
  deriving DecidableEq, Repr

/-- A station on the departed list and the reading at which its hold expires (R40). -/
structure Departed where
  station : Nat
  timer : Nat
  deriving DecidableEq, Repr

/-- The Roster Unit's state (chapter 2): peers by ascending station number, the departed list oldest
first, the join window's timer while it is open. -/
structure RosterUnit where
  peers : List Peer
  departed : List Departed
  window : Option Nat
  rosterFull : Nat
  codeMismatch : Nat
  deriving DecidableEq, Repr

/-! ## Wearer Logic -/

/-- The roles (chapter 3). -/
inductive Role where
  | lead | standby
  deriving DecidableEq, Repr

/-- The Wearer Logic's state; isolation is the AUDIO_READY level. -/
structure WearerLogic where
  role : Role
  stepDown : Bool
  ownMute : Bool
  deriving DecidableEq, Repr

/-! ## Mix Engine -/

/-- What one bus carries from block to block: duck factor, limiter gain, overload count. -/
structure Bus where
  duck : Nat
  limiter : Nat
  overloads : Nat
  deriving DecidableEq, Repr

/-- The Mix Engine's state (chapter 6). -/
structure MixEngine where
  ear : Bus
  up : Bus
  hold : Nat
  deriving DecidableEq, Repr

/-! ## Bridge Unit -/

/-- The bridge states (chapter 7). -/
inductive BridgeState where
  | off | claiming | active | yielded
  deriving DecidableEq, Repr

/-- The Bridge Unit's state; `followed` is the own station number for "the station itself". -/
structure BridgeUnit where
  state : BridgeState
  callFlag : Bool
  settle : Option Nat
  followed : Option Nat
  deriving DecidableEq, Repr

/-! ## Call Request Unit -/

/-- A request slot (R145). It is PENDING exactly while its request timer runs. -/
structure Slot where
  toggle : Bool
  timer : Option Nat
  late : Bool
  deriving DecidableEq, Repr

/-- The floor view while it is set (R167). -/
structure FloorView where
  station : Nat
  wearer : Nat
  timer : Nat
  deriving DecidableEq, Repr

/-- The Call Request Unit's state (chapter 8). -/
structure CallRequest where
  slots : PerKind Slot
  view : Option FloorView
  latches : PerLatch Bool
  merges : PerLatch Nat
  holder : Option Nat
  grant : Option Nat
  floorQueue : List Nat
  deriving DecidableEq, Repr

/-! ## Control Line -/

/-- The outcomes of a request kind (R147, R174); `nothing` is NONE. -/
inductive ReqOutcome where
  | nothing | accepted | busy | timeout | late | dropped
  deriving DecidableEq, Repr

/-- The report types (section 9.2). -/
inductive ReportKind where
  | status | roster | request
  deriving DecidableEq, Repr

/-- A formed report: its kind and all its bytes, type and length bytes included (section 9.2). -/
structure Report where
  kind : ReportKind
  bytes : List Byte
  deriving DecidableEq, Repr

/-- The Control Line's state (chapter 9). -/
structure ControlLine where
  flags : BitVec 12
  mask : BitVec 12
  outcomes : PerKind ReqOutcome
  sending : Option Report
  waiting : List Report
  unknownCommands : Nat
  reportOverflows : Nat
  deriving DecidableEq, Repr

/-! ## Start-up Loader -/

/-- The loader states (section 9.4). -/
inductive LoaderState where
  | loading | running | halted
  deriving DecidableEq, Repr

/-- The fault codes (R183, R184). -/
inductive FaultCode where
  | noFault | clamped | format | sum | station | wearer | group
  deriving DecidableEq, Repr

/-- The wearer map entry of a wearer 1 to 15 (section 6, R182). -/
structure MapEntry where
  ear : Nat
  up : Nat
  exempt : Bool
  deriving DecidableEq, Repr

/-- The settings decoded from the configuration image (R182, R184). -/
structure Settings where
  station : Nat
  wearer : Nat
  group : BitVec 16
  code : BitVec 32
  /-- *J*, in seconds. -/
  joinTime : Nat
  /-- *m*, the lead margin exponent. -/
  margin : Nat
  /-- *D*, the priming depth. -/
  depth : Nat
  /-- *G*, in seconds. -/
  grantTime : Nat
  /-- The turnaround guard, in units of 20 µs. -/
  guard : Nat
  /-- *W*, in ms. -/
  packWait : Nat
  /-- *P*. -/
  packCount : Nat
  /-- *H*. -/
  hangover : Nat
  /-- *Tq*. -/
  quietThreshold : Nat
  /-- *Tc*. -/
  callThreshold : Nat
  /-- *Kc*. -/
  callTarget : Nat
  /-- *Kf*. -/
  floorTarget : Nat
  /-- *Hc*. -/
  duckHold : Nat
  /-- *Sa*. -/
  attack : Nat
  /-- *Sr*. -/
  release : Nat
  /-- *Sl*. -/
  limiterRelease : Nat
  /-- *gs*. -/
  sidetone : Nat
  /-- The ear gain of wearer map entry 0. -/
  downlinkGain : Nat
  /-- The wearer map entries of wearers 1 to 15, in order. -/
  wearerMap : List MapEntry
  deriving DecidableEq, Repr

/-- The Start-up Loader's state. -/
structure Loader where
  state : LoaderState
  reading : Bool
  fault : FaultCode
  settings : Settings
  deriving DecidableEq, Repr

/-! ## Ports -/

/-- The input levels (RESET_N low, AUDIO_READY high, medium busy) and what was last handed to the
audio port, the call port and the radio. -/
structure Ports where
  resetHeld : Bool
  audioReady : Bool
  mediumBusy : Bool
  earOut : Block
  callOut : Block
  radioOut : Option (List Byte)
  deriving DecidableEq, Repr

/-! ## The whole machine -/

/-- The state of one JX10: the timer base reading, the ports, the twelve blocks, and the queue of
the commands that are waiting. -/
structure State where
  now : Nat
  ports : Ports
  lp : LinkPort
  sa : SendAssembler
  cu : CaptureUnit
  ru : RosterUnit
  wl : WearerLogic
  rq : Downlink
  me : MixEngine
  bu : BridgeUnit
  cq : CallRequest
  cl : ControlLine
  sl : Loader
  pending : List Instr
  deriving DecidableEq, Repr

/-- Nothing in the part faults: the spec gives no event that stops it without a state to go on
from (a bad image leads to the loader state HALTED, R183). -/
inductive Fault where
  deriving DecidableEq, Repr

/-- Why a command is refused. -/
inductive Refusal where
  /-- Raised by exec for a row that has no meaning yet; safe, since nothing is claimed of it. -/
  | notModelled (mnemonic : String)
  /-- Raised by UNKNOWN_COMMAND when its byte, with its stop bit found, does name a command: such a
  term is ill-formed (`Instr.wellFormed`), since the line then delivers that command. Safe. -/
  | namesACommand (byte : Byte)
  deriving DecidableEq, Repr

/-! ## Reset -/


/-- The same value for each kind. -/
def PerKind.all {α : Type} (a : α) : PerKind α := ⟨a, a, a, a⟩

/-- An IDLE and empty queue with the given counts (R80, R98). -/
def RxQueue.cleared (counts : QueueCounts) : RxQueue where
  mode := .idle
  next := 0
  primeWait := 0
  conceal := 0
  lastReal := none
  entries := []
  counts := counts

/-- Counts at 0. -/
def QueueCounts.zero : QueueCounts := ⟨0, 0, 0, 0, 0⟩

/-- A slip state with nothing pending (R97). -/
def SlipState.cleared : SlipState := ⟨0, 0, none, 0⟩

/-- A bus at rest (R127). -/
def Bus.rest : Bus := ⟨1024, 32768, 0⟩

/-- The settings before an image is loaded: zeros that no rule reads (assumption 6). -/
def Settings.unloaded : Settings where
  station := 0
  wearer := 0
  group := 0
  code := 0
  joinTime := 0
  margin := 0
  depth := 0
  grantTime := 0
  guard := 0
  packWait := 0
  packCount := 0
  hangover := 0
  quietThreshold := 0
  callThreshold := 0
  callTarget := 0
  floorTarget := 0
  duckHold := 0
  attack := 0
  release := 0
  limiterRelease := 0
  sidetone := 0
  downlinkGain := 0
  wearerMap := []

/-- The Link Port on RESET (R13). -/
def LinkPort.reset : LinkPort where
  access := .idle
  cw := 8
  backoff := none
  idleMark := none
  slotEnd := none
  sendDoneAt := none
  framesSent := 0
  checkFailures := 0
  foreignFrames := 0
  numberClashes := 0
  draws := 0

/-- The Send Assembler on RESET (R75). -/
def SendAssembler.reset : SendAssembler where
  queue := []
  frameSeq := 0
  presenceTimer := none
  scheduledDue := false
  promotionTimer := none
  promptDue := false
  hailTimer := none
  hailDue := false
  leaveDue := false
  sendDrops := 0

/-- The Capture Unit on RESET (R62). -/
def CaptureUnit.reset : CaptureUnit := ⟨0, 0, .quiet, 0, false⟩

/-- The Roster Unit on RESET (R42). -/
def RosterUnit.reset : RosterUnit := ⟨[], [], none, 0, 0⟩

/-- The Wearer Logic on RESET with AUDIO_READY high (R56). -/
def WearerLogic.reset : WearerLogic := ⟨.lead, false, false⟩

/-- The downlink queue on RESET (R102). -/
def Downlink.reset : Downlink := ⟨RxQueue.cleared QueueCounts.zero, SlipState.cleared, 0⟩

/-- The Mix Engine on RESET (R127). -/
def MixEngine.reset : MixEngine := ⟨Bus.rest, Bus.rest, 0⟩

/-- The Bridge Unit on RESET (R141). -/
def BridgeUnit.reset : BridgeUnit := ⟨.off, false, none, none⟩

/-- The Call Request Unit on RESET (R166). -/
def CallRequest.reset : CallRequest where
  slots := PerKind.all ⟨false, none, false⟩
  view := none
  latches := ⟨false, false⟩
  merges := ⟨0, 0⟩
  holder := none
  grant := none
  floorQueue := []

/-- The Control Line on RESET (R172, R177 to R179). -/
def ControlLine.reset : ControlLine := ⟨0, 0, PerKind.all .nothing, none, [], 0, 0⟩

/-- The Start-up Loader on RESET (R180, R184). -/
def Loader.reset : Loader := ⟨.loading, false, .noFault, Settings.unloaded⟩

/-- The machine right after reset: RESET_N still held, every block at its RESET value (R180). The
levels of AUDIO_READY and of the medium, the timer base's reading and the ports' outputs are the
model's (assumptions 1, 4, 5, 15). -/
def State.reset : State where
  now := 0
  ports := ⟨true, true, false, Block.silence, Block.silence, none⟩
  lp := LinkPort.reset
  sa := SendAssembler.reset
  cu := CaptureUnit.reset
  ru := RosterUnit.reset
  wl := WearerLogic.reset
  rq := Downlink.reset
  me := MixEngine.reset
  bu := BridgeUnit.reset
  cq := CallRequest.reset
  cl := ControlLine.reset
  sl := Loader.reset
  pending := []

end Sys2Proof.Machine
end

