-- ==== Sys2Proof/Machine/Ops.lean ====
section
/-! DEFINITION. Named operations over counts, sequence numbers, blocks, the per-kind records, the
timer base and the peer table, on which every meaning rests. -/

namespace Sys2Proof

/-- The sample at position `i` of a block (0 beyond its end, which no rule reads). -/
def Block.sample (b : Block) (i : Nat) : Sample := b.samples.getD i 0

/-- The block whose sample at position `i` is `f i`. -/
def Block.ofFn (f : Nat → Sample) : Block := ⟨(List.range 32).map f, by simp⟩

/-- The block with `f` applied to each sample. -/
def Block.map (f : Sample → Sample) (b : Block) : Block := ⟨b.samples.map f, by simp [b.len]⟩

/-- The level of a block: its largest absolute sample value, 0 to 32768 (Conventions, Levels). -/
def Block.level (b : Block) : Nat := b.samples.foldl (fun m x => max m x.toInt.natAbs) 0

end Sys2Proof

namespace Sys2Proof.Machine

/-! ## Durations on the timer base (10 µs a reading) -/

/-- `n` microseconds, for multiples of 10. -/
def micros (n : Nat) : Nat := n / 10

/-- `n` milliseconds. -/
def millis (n : Nat) : Nat := n * 100

/-- `n` seconds. -/
def seconds (n : Nat) : Nat := n * 100000

/-- The quiet gap: 150 µs (section 1.2). -/
def quietGap : Nat := micros 150

/-- The backoff slot: 50 µs (section 1.2). -/
def backoffSlot : Nat := micros 50

/-- The CW of a link at rest (section 1.2). -/
def cwRest : Nat := 8

/-- The largest CW (section 1.2). -/
def cwMax : Nat := 64

/-- The presence interval and the wait before promotion: 100 ms each (R69). -/
def presenceInterval : Nat := millis 100

/-- The hail interval: 50 ms (R70). -/
def hailInterval : Nat := millis 50

/-- The silence that makes a peer LOST: 300 ms (R35). -/
def lossTime : Nat := millis 300

/-- How long a LOST entry is kept: 5 s (R36). -/
def lostTime : Nat := seconds 5

/-- How long a HAILED entry is kept after its last hail: 1 s (R37). -/
def hailedTime : Nat := seconds 1

/-- The hold of a departed station: 10 s (R40). -/
def departedHold : Nat := seconds 10

/-- The settle period: 60 ms (R131). -/
def settleTime : Nat := millis 60

/-- The request timer: 2000 ms (R145). -/
def requestTime : Nat := millis 2000

/-- The peer table holds at most 9 entries (R19). -/
def peerLimit : Nat := 9

/-- The departed list holds at most 4 stations (R40). -/
def departedLimit : Nat := 4

/-- The send queue holds at most 12 entries, none 12 or more boundaries old (R66, R67). -/
def sendLimit : Nat := 12

/-- A TALK section holds at most 4 blocks (R73). -/
def sectionLimit : Nat := 4

/-! ## Counts and sequence numbers -/

/-- A 16-bit count raised by `n`; it stops at 65535 (R12, R20, R42, R103). -/
def countUp (c n : Nat) : Nat := min 65535 (c + n)

/-- The modular difference (b - a) mod 65536 of two block sequence numbers (Conventions). -/
def seqAhead (a b : Seq) : Nat := (b - a).toNat

/-- The frame gap of sequence `s` after `s0`: (s - s0 - 1) mod 256 (R17). -/
def frameGap (s0 s : BitVec 8) : Nat := (s - s0 - 1).toNat

/-! ## The per-kind records -/

/-- The four kinds in kind order (R148, R151). -/
def allKinds : List ReqKind := [.answer, .hangup, .floor, .yield]

/-- The value of a kind. -/
def PerKind.get {α : Type} (r : PerKind α) : ReqKind → α
  | .answer => r.answer
  | .hangup => r.hangup
  | .floor => r.floor
  | .yield => r.yield

/-- The record with the value of one kind replaced. -/
def PerKind.set {α : Type} (r : PerKind α) (k : ReqKind) (a : α) : PerKind α :=
  match k with
  | .answer => { r with answer := a }
  | .hangup => { r with hangup := a }
  | .floor => { r with floor := a }
  | .yield => { r with yield := a }

/-- The value of a latch kind. -/
def PerLatch.get {α : Type} (r : PerLatch α) : LatchKind → α
  | .answer => r.answer
  | .hangup => r.hangup

/-- The record with the value of one latch kind replaced. -/
def PerLatch.set {α : Type} (r : PerLatch α) (k : LatchKind) (a : α) : PerLatch α :=
  match k with
  | .answer => { r with answer := a }
  | .hangup => { r with hangup := a }

/-- The request kind of a latch kind. -/
def latchReqKind : LatchKind → ReqKind
  | .answer => .answer
  | .hangup => .hangup

/-! ## The timer base and the loader -/

/-- The timer base has reached at least `t`: a timer that was to expire at `t` has expired
(assumption 2). -/
def State.catchUp (s : State) (t : Nat) : State := { s with now := max s.now t }

/-- The Start-up Loader is RUNNING. -/
abbrev State.running (s : State) : Prop := s.sl.state = .running

/-- The settings in force. -/
abbrev State.cfg (s : State) : Settings := s.sl.settings

/-- The station's own number. -/
abbrev State.own (s : State) : Nat := s.sl.settings.station

/-- Isolation: AUDIO_READY is low (R44, R45). -/
def State.isolated (s : State) : Bool := !s.ports.audioReady

/-! ## The peer table: a list by ascending station number (R19) -/

/-- The entry of a station in a list of entries. -/
def findPeer (n : Nat) (ps : List Peer) : Option Peer := ps.find? (fun p => p.station = n)

/-- The list with an entry put at its place. -/
def insertPeer (p : Peer) : List Peer → List Peer
  | [] => [p]
  | q :: qs => if p.station < q.station then p :: q :: qs else q :: insertPeer p qs

/-- The list with `f` applied to the entry of a station. -/
def updatePeer (n : Nat) (f : Peer → Peer) (ps : List Peer) : List Peer :=
  ps.map (fun p => if p.station = n then f p else p)

/-- The list without the entry of a station. -/
def erasePeer (n : Nat) (ps : List Peer) : List Peer := ps.filter (fun p => p.station ≠ n)

/-- The peer entry of a station. -/
def State.peer (s : State) (n : Nat) : Option Peer := findPeer n s.ru.peers

/-- The state with `f` applied to the entry of a station; the tables of other blocks stay. -/
def State.mapPeer (s : State) (n : Nat) (f : Peer → Peer) : State :=
  { s with ru := { s.ru with peers := updatePeer n f s.ru.peers } }

/-- An entry the other blocks see: ADMITTED or LOST (R19). -/
def Peer.seen (p : Peer) : Bool := p.state ≠ .hailed

end Sys2Proof.Machine
end

