-- ==== Sys2Proof/Machine/Flags.lean ====
section
/-! DEFINITION. The sticky flags and ATTN (section 9.3). -/

namespace Sys2Proof.Machine

/-- The twelve sticky flags (R177). -/
inductive Sticky where
  | numberClash | rosterFull | peerJoined | peerLost | peerLeft | bridgeChange | bridgeYield
  | floorChange | reqOutcome | sendDrop | queueSlide | configFault
  deriving DecidableEq, Repr

/-- The bit number of a flag in the STATUS and in the report mask (R177). -/
def stickyBit : Sticky → Nat
  | .numberClash => 0
  | .rosterFull => 1
  | .peerJoined => 2
  | .peerLost => 3
  | .peerLeft => 4
  | .bridgeChange => 5
  | .bridgeYield => 6
  | .floorChange => 7
  | .reqOutcome => 8
  | .sendDrop => 9
  | .queueSlide => 10
  | .configFault => 11

/-- The flag word with only this flag set. -/
def stickyMask (f : Sticky) : BitVec 12 := BitVec.twoPow 12 (stickyBit f)

/-- Sets a sticky flag; a flag already set stays set (R177). -/
def State.setFlag (s : State) (f : Sticky) : State :=
  { s with cl := { s.cl with flags := s.cl.flags ||| stickyMask f } }

/-- Sets a sticky flag when a condition holds. -/
def State.setFlagIf (s : State) (c : Bool) (f : Sticky) : State := if c then s.setFlag f else s

/-- A sticky flag is set. -/
def State.flag (s : State) (f : Sticky) : Bool := s.cl.flags.getLsbD (stickyBit f)

/-- The ATTN output (R178): low in LOADING, high in HALTED, and in RUNNING high while a flag is set
whose mask bit is clear. -/
def State.attn (s : State) : Bool :=
  match s.sl.state with
  | .loading => false
  | .halted => true
  | .running => s.cl.flags &&& ~~~s.cl.mask ≠ 0

end Sys2Proof.Machine
end

