-- ==== Sys2Proof/Machine/Queues.lean ====
section
/-! DEFINITION. The Receive Queues (chapter 5): placement, playout, concealment, slips, flushes. -/

namespace Sys2Proof.Machine

/-- The window of a queue: 16 sequence numbers from *next* (R76, R81). -/
def windowSize : Nat := 16

/-- What a queue gives at a boundary: samples, level, and whether they are real (R86). -/
structure Output where
  block : Block
  level : Nat
  real : Bool
  deriving DecidableEq, Repr

/-- Silence: 32 zero samples, level 0, not real (R86). -/
def Output.silence : Output := ⟨Block.silence, 0, false⟩

/-- The output of a block played as real (R88, R96). -/
def Output.ofReal (b : RealBlock) : Output := ⟨b.block, b.level, true⟩

/-- The block and level of an entry. -/
def RxEntry.realBlock (e : RxEntry) : RealBlock := ⟨e.block, e.level⟩

/-! ## Placement (section 5.3) -/

/-- The offset of a sequence number after *next*: (s - next) mod 65536 (R81). -/
def RxQueue.offset (q : RxQueue) (x : Seq) : Nat := seqAhead q.next x

/-- An entry with this sequence is held. -/
def RxQueue.holds (q : RxQueue) (x : Seq) : Bool := q.entries.any (fun e => e.seq = x)

/-- The depth: the number of entries held (R76). -/
def RxQueue.depth (q : RxQueue) : Nat := q.entries.length

/-- Entries in the order of their distance after `next`, with one more put at its place (R76). -/
def insertRx (next : Seq) (e : RxEntry) : List RxEntry → List RxEntry
  | [] => [e]
  | x :: xs =>
    if seqAhead next e.seq < seqAhead next x.seq then e :: x :: xs else x :: insertRx next e xs

/-- The queue starts on a block: PRIMING on it alone, with the prime wait at *D* (R80, R85). -/
def RxQueue.start (depth : Nat) (q : RxQueue) (e : RxEntry) : RxQueue :=
  { q with mode := .priming, next := e.seq, primeWait := depth, conceal := 0, lastReal := none,
           entries := [e] }

/-- The block goes in at its place. -/
def RxQueue.insert (q : RxQueue) (e : RxEntry) : RxQueue :=
  { q with entries := insertRx q.next e q.entries }

/-- The late count rises by 1 (R82, R83). -/
def RxQueue.countLate (q : RxQueue) : RxQueue :=
  { q with counts := { q.counts with late := countUp q.counts.late 1 } }

/-- A block beyond the window (R84, R85). `target` is the new *next* of a slide, s - 15; a held
entry lies at or after it when its offset is at least that of `target`. The Boolean says whether
QUEUE_SLIDE is to be set. -/
def RxQueue.placeBeyond (depth : Nat) (q : RxQueue) (e : RxEntry) : RxQueue × Bool :=
  let target := e.seq - 15
  let kept := q.entries.filter (fun x => q.offset target ≤ q.offset x.seq)
  let removed := q.entries.length - kept.length
  if kept.isEmpty then
    let q' := q.start depth e
    ({ q' with counts := { q.counts with resyncs := countUp q.counts.resyncs 1 } }, true)
  else
    (RxQueue.insert { q with next := target, entries := kept,
                             counts := { q.counts with slides := countUp q.counts.slides removed } } e,
     decide (0 < removed))

/-- A block before *next* in a PRIMING queue (R83): inserted with *next* moved back to it when the
held span stays within 16, late otherwise. -/
def RxQueue.placeBefore (q : RxQueue) (e : RxEntry) : RxQueue :=
  match q.entries.getLast? with
  | some last =>
    if seqAhead e.seq last.seq + 1 ≤ windowSize then
      { q with next := e.seq, entries := e :: q.entries }
    else q.countLate
  | none => q.countLate

/-- Places one block in a queue (section 5.3's table). -/
def RxQueue.place (depth : Nat) (q : RxQueue) (e : RxEntry) : RxQueue × Bool :=
  if q.mode = .idle then (q.start depth e, false)
  else if q.offset e.seq < windowSize then (if q.holds e.seq then q else q.insert e, false)
  else if q.offset e.seq < 32768 then q.placeBeyond depth e
  else if q.mode = .playing then (q.countLate, false)
  else (q.placeBefore e, false)

/-- Places the blocks of a section one after another (R78). -/
def RxQueue.placeAll (depth : Nat) (q : RxQueue) : List RxEntry → RxQueue × Bool
  | [] => (q, false)
  | e :: es =>
    let r := q.place depth e
    let r' := r.1.placeAll depth es
    (r'.1, r.2 || r'.2)

/-- The blocks of a section with their sequence numbers, from `first` on (R16, R78). -/
def numberBlocks (first : Seq) : List AirBlock → List RxEntry
  | [] => []
  | b :: bs => ⟨first, b.block, b.level, b.isEnd⟩ :: numberBlocks (first + 1) bs

/-! ## Playout (section 5.4) -/

/-- The attenuated last real block of a concealment run `k` (R90): each sample shifted right
arithmetically by `k`, for `k` 1 to 3; silence from 4 on or with no last real block. -/
def concealBlock (k : Nat) (last : Option RealBlock) : Block :=
  match last with
  | some b => if k ≤ 3 then b.block.map (fun x => x.sshiftRight k) else Block.silence
  | none => Block.silence

/-- A boundary in PRIMING (R87). -/
def RxQueue.primingStep (depth : Nat) (q : RxQueue) : RxQueue :=
  let wait := q.primeWait - 1
  let go := decide (depth ≤ q.depth) || wait = 0 || q.entries.any (·.isEnd)
  { q with primeWait := wait, mode := if go then .playing else .priming }

/-- The entry at *next* is taken (R88, R89). -/
def RxQueue.take (depth : Nat) (q : RxQueue) (e : RxEntry) : RxQueue :=
  let rest := q.entries.filter (fun x => x.seq ≠ q.next)
  let q' := { q with entries := rest, next := q.next + 1, conceal := 0,
                     lastReal := some e.realBlock }
  if e.isEnd then
    match rest with
    | [] => RxQueue.cleared q.counts
    | x :: _ => { q' with mode := .priming, next := x.seq, primeWait := depth }
  else q'

/-- *next* is not held: concealment (R90), and the stream breaks after 8 with nothing held (R91). -/
def RxQueue.concealStep (q : RxQueue) : RxQueue :=
  let k := min 255 (q.conceal + 1)
  let counts := { q.counts with concealed := countUp q.counts.concealed 1 }
  if 8 ≤ k && q.entries.isEmpty then
    RxQueue.cleared { counts with breaks := countUp counts.breaks 1 }
  else { q with next := q.next + 1, conceal := k, counts := counts }

/-- The entry held at *next*. -/
def RxQueue.atNext (q : RxQueue) : Option RxEntry := q.entries.find? (fun e => e.seq = q.next)

/-- One playout step of a queue and its output (R86). -/
def RxQueue.playStep (depth : Nat) (q : RxQueue) : RxQueue × Output :=
  match q.mode with
  | .idle => (q, Output.silence)
  | .priming => (q.primingStep depth, Output.silence)
  | .playing =>
    match q.atNext with
    | some e => (q.take depth e, Output.ofReal e.realBlock)
    | none => (q.concealStep, ⟨concealBlock (min 255 (q.conceal + 1)) q.lastReal, 0, false⟩)

/-! ## Downlink slips (section 5.5) -/

/-- The run length that makes a slip pending, and the wait that forces it (R93). -/
def slipRun : Nat := 250

/-- The slip wait (R93). -/
def slipWait : Nat := 64

/-- A slip state with the queue out of PLAYING is cleared (R97). -/
def Downlink.settleSlip (d : Downlink) : Downlink :=
  if d.queue.mode = .playing then d else { d with slip := SlipState.cleared }

/-- The depth measure after a step that began and ended in PLAYING with no slip pending (R93). -/
def Downlink.measure (depth : Nat) (d : Downlink) : Downlink :=
  let high := if depth + 2 < d.queue.depth then d.slip.highRun + 1 else 0
  let low := if d.queue.depth + 1 < depth then d.slip.lowRun + 1 else 0
  let due : Option Slip :=
    if slipRun ≤ high then some .drop else if slipRun ≤ low then some .repeat else none
  { d with slip := { highRun := high, lowRun := low, pending := due,
                     wait := if due.isSome then slipWait else 0 } }

/-- An applied slip is counted and its state cleared (R94). -/
def Downlink.countSlip (d : Downlink) : Downlink :=
  { d with slip := SlipState.cleared, slips := countUp d.slips 1 }

/-- A drop (R95): an ordinary step, and then, when the queue is still PLAYING, the sequence at the
new *next* is skipped. A step that left PLAYING clears the slip uncounted (R97, assumption 13). -/
def Downlink.dropStep (depth : Nat) (d : Downlink) : Downlink × Output :=
  let r := d.queue.playStep depth
  if r.1.mode = .playing then
    let q := { r.1 with next := r.1.next + 1,
                        entries := r.1.entries.filter (fun x => x.seq ≠ r.1.next) }
    ({ d with queue := q }.countSlip, r.2)
  else ({ d with queue := r.1, slip := SlipState.cleared }, r.2)

/-- A repeat (R96): a block is output without advancing. -/
def Downlink.repeatStep (d : Downlink) : Downlink × Output :=
  match d.queue.atNext with
  | some e =>
    ({ d with queue := { d.queue with lastReal := some e.realBlock } }.countSlip,
     Output.ofReal e.realBlock)
  | none =>
    (d.countSlip,
     match d.queue.lastReal with
     | some b => Output.ofReal b
     | none => Output.silence)

/-- A pending slip is applied at this boundary: on a quiet block at *next*, or when the wait, just
lowered, is 0 (R94). -/
def Downlink.slipNow (quiet : Nat) (d : Downlink) : Bool :=
  d.slip.wait - 1 = 0 ||
    match d.queue.atNext with
    | some e => decide (e.level < quiet)
    | none => false

/-- The downlink queue's step at a boundary (R86, R93 to R97). -/
def Downlink.step (depth quiet : Nat) (d : Downlink) : Downlink × Output :=
  match d.queue.mode, d.slip.pending with
  | .playing, some kind =>
    if d.slipNow quiet then
      match kind with
      | .drop => d.dropStep depth
      | .repeat => d.repeatStep
    else
      let r := d.queue.playStep depth
      (Downlink.settleSlip { d with queue := r.1, slip := { d.slip with wait := d.slip.wait - 1 } },
       r.2)
  | .playing, none =>
    let r := d.queue.playStep depth
    let d' : Downlink := { d with queue := r.1 }
    (if r.1.mode = .playing then d'.measure depth else d'.settleSlip, r.2)
  | _, _ =>
    let r := d.queue.playStep depth
    ({ d with queue := r.1 }, r.2)

/-! ## Flushes (section 5.6) and placement from the state -/

/-- A flush keeps the counts and puts the queue in IDLE (R98). -/
def RxQueue.flush (q : RxQueue) : RxQueue := RxQueue.cleared q.counts

/-- A flush of the downlink queue clears its slip state too (R98). -/
def Downlink.flush (d : Downlink) : Downlink :=
  { d with queue := d.queue.flush, slip := SlipState.cleared }

/-- The downlink queue is flushed (R99). -/
def State.flushDownlink (s : State) : State := { s with rq := s.rq.flush }

/-- A peer with its voice queue flushed. -/
def Peer.flushQueue (p : Peer) : Peer := { p with queue := p.queue.map RxQueue.flush }

/-- Every receive queue is flushed (R100). -/
def State.flushAll (s : State) : State :=
  { s with rq := s.rq.flush, ru := { s.ru with peers := s.ru.peers.map Peer.flushQueue } }

/-- A voice section goes to the sender's voice queue (R78). -/
def State.placeVoice (s : State) (n : Nat) (t : TalkSection) : State :=
  match (s.peer n).bind (·.queue) with
  | some q =>
    let r := q.placeAll s.cfg.depth (numberBlocks t.first t.blocks)
    (s.mapPeer n (fun p => { p with queue := some r.1 })).setFlagIf r.2 .queueSlide
  | none => s

/-- A call section goes to the downlink queue when its sender is the followed bridge, and is turned
away otherwise (R79). A slide or resync that leaves PLAYING clears the slip state (R97). -/
def State.placeCall (s : State) (n : Nat) (t : TalkSection) : State :=
  if s.bu.followed = some n then
    let r := s.rq.queue.placeAll s.cfg.depth (numberBlocks t.first t.blocks)
    State.setFlagIf { s with rq := Downlink.settleSlip { s.rq with queue := r.1 } } r.2 .queueSlide
  else s

/-- Every queue of a list of entries takes its playout step (R86). -/
def playPeers (depth : Nat) (ps : List Peer) : List Peer :=
  ps.map (fun p => { p with queue := p.queue.map (fun q => (q.playStep depth).1) })

/-- The output of a peer's voice queue at this boundary, before its step is taken (R86). -/
def Peer.output (depth : Nat) (p : Peer) : Output :=
  match p.queue with
  | some q => (q.playStep depth).2
  | none => Output.silence

end Sys2Proof.Machine
end

