-- ==== Sys2Proof/Machine/Wearer.lean ====
section
/-! DEFINITION. The Wearer Logic (chapter 3): mates, wearer mute, lead election, carriers. -/

namespace Sys2Proof.Machine

/-- The mic score: the smoothed level divided by 128, at most 255 (R58). -/
def State.micScore (s : State) : Nat := min 255 (s.cu.avg / 128)

/-- An entry the Wearer Logic sees and whose wearer is the station's own (R43). -/
def State.isMate (s : State) (p : Peer) : Bool := p.seen && p.wearer = s.cfg.wearer

/-- The set M: mates that are ADMITTED and do not show ISOLATED (R43). -/
def State.activeMates (s : State) : List Peer :=
  s.ru.peers.filter (fun p => s.isMate p && p.state = .admitted && !p.header.flags.isolated)

/-- The wearer mute: own mute, or the MUTED of any ADMITTED mate (R47). -/
def State.wearerMute (s : State) : Bool :=
  s.wl.ownMute ||
    s.ru.peers.any (fun p => s.isMate p && p.state = .admitted && p.header.flags.muted)

/-- An evaluation from STANDBY (R49). -/
def State.takeLead (s : State) : State :=
  if !s.isolated && !s.activeMates.any (·.header.flags.lead) then
    { s with wl := { s.wl with role := .lead } }
  else s

/-- A member of M that the lead gives way to: tie or score (R50). -/
def State.givesWayTo (s : State) (p : Peer) : Bool :=
  (p.header.flags.lead && decide (p.station < s.own)) ||
    decide (s.micScore * 2 ^ s.cfg.margin < p.header.micScore)

/-- A pending step-down takes effect when the Capture Unit is QUIET (R51). -/
def State.stepDownEffect (s : State) : State :=
  if s.wl.stepDown && s.cu.spurt = .quiet then
    let s1 := { s with wl := { s.wl with role := .standby, stepDown := false } }
    if s1.activeMates.isEmpty then s1.takeLead else s1
  else s

/-- One evaluation of the role: R49 from STANDBY, R50 (and R51 at once when QUIET) from LEAD. -/
def State.evaluateRole (s : State) : State :=
  match s.wl.role with
  | .standby => s.takeLead
  | .lead =>
    if !s.wl.stepDown && s.activeMates.any s.givesWayTo then
      State.stepDownEffect { s with wl := { s.wl with stepDown := true } }
    else s

/-- The carrier of a wearer among the peers: the lowest-numbered ADMITTED or LOST entry of that
wearer whose last-heard header shows LEAD (R52). -/
def State.carrier (s : State) (w : Nat) : Option Peer :=
  s.ru.peers.find? (fun p => p.seen && p.wearer = w && p.header.flags.lead)

end Sys2Proof.Machine
end

