-- ==== Sys2Proof/Machine/Mix.lean ====
section
/-! DEFINITION. The Mix Engine (chapter 6): sources, ducking, accumulation, limiter. -/

namespace Sys2Proof.Machine

/-- A source of a bus at one boundary (section 6.2): its samples, its gain *g* (R111), and whether
the bus's duck factor applies to it (R116). -/
structure Source where
  block : Block
  gain : Nat
  ducked : Bool
  deriving DecidableEq, Repr

/-! ## Arithmetic (R115, R117 to R122) -/

/-- The duck factor moved toward its target: by *Sa* downward, by *Sr* upward, never past it (R115). -/
def duckRamp (attack release target d : Nat) : Nat :=
  if target < d then max target (d - attack)
  else if d < target then min target (d + release)
  else d

/-- The effective gain (R117): (g × d + 512) / 1024 rounded down where the factor applies, else g. -/
def Source.effective (d : Nat) (src : Source) : Nat :=
  if src.ducked then (src.gain * d + 512) / 1024 else src.gain

/-- The product of a sample and an effective gain: (x × g + 512) / 1024 rounded toward minus
infinity (R118). -/
def mixProduct (x : Sample) (g : Nat) : Int := (x.toInt * g + 512) / 1024

/-- The accumulator at position `i`: the exact sum of the products of all sources (R119). -/
def mixAcc (d : Nat) (srcs : List Source) (i : Nat) : Int :=
  (srcs.map (fun src => mixProduct (src.block.sample i) (src.effective d))).sum

/-- The 32 accumulator values of a bus. -/
def mixAccs (d : Nat) (srcs : List Source) : List Int := (List.range 32).map (mixAcc d srcs)

/-- The peak of a block of accumulator values: its largest magnitude (R120). -/
def mixPeak (accs : List Int) : Nat := accs.foldl (fun m a => max m a.natAbs) 0

/-- The limiter gain for a block with this peak (R121). -/
def limiterGain (release peak gain : Nat) : Nat :=
  let candidate := min 32768 (gain + release)
  if 32767 < peak then min candidate (32767 * 32768 / peak) else candidate

/-- An output sample: (acc × L + 16384) / 32768 rounded toward minus infinity (R122). -/
def mixOutput (gain : Nat) (acc : Int) : Sample := BitVec.ofInt 16 ((acc * gain + 16384) / 32768)

/-- One mix of one bus with its duck target (section 6.1): the factor ramps (R115), the sources are
scaled and summed, the limiter is set (R121), overloads are counted (R123), the output is rounded. -/
def Bus.mix (cfg : Settings) (target : Nat) (srcs : List Source) (b : Bus) : Bus × Block :=
  let d := duckRamp cfg.attack cfg.release target b.duck
  let accs := mixAccs d srcs
  let peak := mixPeak accs
  let gain := limiterGain cfg.limiterRelease peak b.limiter
  ({ duck := d, limiter := gain,
     overloads := if 32767 < peak then countUp b.overloads 1 else b.overloads },
   Block.ofFn (fun i => mixOutput gain (accs.getD i 0)))

/-! ## What the mix reads (R105, R111, R113) -/

/-- The wearer map entry of a wearer 1 to 15 (R111). -/
def Settings.mapEntry (cfg : Settings) (w : Nat) : MapEntry :=
  cfg.wearerMap.getD (w - 1) ⟨0, 0, false⟩

/-- The wearer of a station that takes part in the floor: the own wearer for the own number, else
the wearer field of its peer entry (R154, R158). -/
def State.wearerOf (s : State) (n : Nat) : Option Nat :=
  if n = s.own then some s.cfg.wearer else (s.peer n).map (·.wearer)

/-- The floor holder's wearer, or none (R113): the bridge's own holder when ACTIVE, else the floor
view. -/
def State.floorWearer (s : State) : Option Nat :=
  if s.bu.state = .active then s.cq.holder.bind s.wearerOf else s.cq.view.map (·.wearer)

/-- The duck factor applies to the sources of a wearer: exempt flag clear, and not the floor
holder's wearer (R116). -/
def State.duckApplies (s : State) (w : Nat) : Bool :=
  !(s.cfg.mapEntry w).exempt && s.floorWearer ≠ some w

/-- The wearer numbers (Conventions). -/
def allWearers : List Nat := (List.range 15).map (· + 1)

/-- What the blocks hand the Mix Engine at one boundary (R105): the sidetone block, the sent block
if any, the call port's block with its level, and the downlink queue's output. -/
structure MixInput where
  sidetone : Block
  sent : Option Block
  call : Block
  downlink : Output
  deriving DecidableEq, Repr

/-- The downlink source of the ear bus, with level and real mark (R107). -/
def State.downlinkSource (s : State) (m : MixInput) : Option Output :=
  if s.bu.state = .active then some ⟨m.call, m.call.level, true⟩
  else if s.bu.followed.isSome then some m.downlink
  else none

/-- The source of a wearer's carrier on the ear bus (R106, R111). The outputs are those of the
queues as they stood when the boundary was taken. -/
def State.earSource (s : State) (w : Nat) : Option Source :=
  if w = s.cfg.wearer then none
  else (s.carrier w).map (fun p =>
    ⟨(p.output s.cfg.depth).block, (s.cfg.mapEntry w).ear, s.duckApplies w⟩)

/-- The sources of the ear bus: downlink, one per other wearer, sidetone (R106). -/
def State.earSources (s : State) (m : MixInput) : List Source :=
  ((s.downlinkSource m).map (fun o => (⟨o.block, s.cfg.downlinkGain, false⟩ : Source))).toList ++
    allWearers.filterMap s.earSource ++ [⟨m.sidetone, s.cfg.sidetone, false⟩]

/-- The block of a wearer's carrier on the uplink: for the own wearer the sent block, when there is
one, else the carrier's queue output (R54, R108). -/
def State.upBlock (s : State) (m : MixInput) (w : Nat) : Option Block :=
  let fromPeer := (s.carrier w).map (fun p => (p.output s.cfg.depth).block)
  if w = s.cfg.wearer then (match m.sent with | some b => some b | none => fromPeer) else fromPeer

/-- The sources of the uplink bus (R108, R111). -/
def State.upSources (s : State) (m : MixInput) : List Source :=
  allWearers.filterMap (fun w =>
    (s.upBlock m w).map (fun b => ⟨b, (s.cfg.mapEntry w).up, s.duckApplies w⟩))

/-- The call-duck test of a boundary (R112): a downlink source that is real and loud enough. -/
def State.callLoud (s : State) (m : MixInput) : Bool :=
  match s.downlinkSource m with
  | some o => o.real && decide (s.cfg.callThreshold ≤ o.level)
  | none => false

/-- The ear bus's target (R114). -/
def State.earTarget (s : State) (callDuck : Bool) : Nat :=
  let t := if callDuck then s.cfg.callTarget else 1024
  if s.floorWearer.isSome then min t s.cfg.floorTarget else t

/-- The uplink bus's target (R114). -/
def State.upTarget (s : State) : Nat :=
  if s.floorWearer.isSome then s.cfg.floorTarget else 1024

/-- The Mix Engine at a boundary taken (R104): the hold count (R112), the ear block to the audio
port, and at an ACTIVE bridge the uplink block to the call port, which gets silence otherwise. -/
def State.mixBoundary (s : State) (m : MixInput) : State :=
  let loud := s.callLoud m
  let hold := if loud then s.cfg.duckHold else s.me.hold - 1
  let ear := s.me.ear.mix s.cfg (s.earTarget (loud || decide (0 < s.me.hold))) (s.earSources m)
  let up := if s.bu.state = .active then s.me.up.mix s.cfg s.upTarget (s.upSources m)
            else (s.me.up, Block.silence)
  { s with me := { ear := ear.1, up := up.1, hold := hold },
           ports := { s.ports with earOut := ear.2, callOut := up.2 } }

/-- The Mix Engine at rest after a rise of AUDIO_READY; the overload counts are kept (R125). -/
def State.restMix (s : State) : State :=
  { s with me := { ear := { s.me.ear with duck := 1024, limiter := 32768 },
                   up := { s.me.up with duck := 1024, limiter := 32768 }, hold := 0 } }

end Sys2Proof.Machine
end

