-- ==== Sys2Proof/Machine/Operands.lean ====
section
/-! DEFINITION. What the operands of FRAME_ARRIVAL and LOADING_COMPLETE spell: the layout of frames
(section 1.5), read and written, and the configuration image (section 9.4). -/

namespace Sys2Proof

/-- The byte at an offset of the image, as a number (R182). -/
def Image.byteAt (img : Image) (i : Nat) : Nat := (img.bytes.getD i 0#8).toNat

end Sys2Proof

namespace Sys2Proof.Machine

/-! ## Bytes -/

/-- Two bytes, most significant first, as a number (section 1.5). -/
def be16 (hi lo : Byte) : Nat := hi.toNat * 256 + lo.toNat

/-- A number below 256 as a byte. -/
def byte8 (n : Nat) : Byte := BitVec.ofNat 8 n

/-- A number below 65536 as two bytes, most significant first (section 1.5). -/
def bytes16 (n : Nat) : List Byte := [byte8 (n / 256), byte8 n]

/-- A number of 32 bits as four bytes, most significant first. -/
def bytes32 (n : Nat) : List Byte := bytes16 (n / 65536) ++ bytes16 (n % 65536)

/-- The number with bit `i` set where the `i`-th Boolean is true. -/
def bitsToNat : List Bool → Nat
  | [] => 0
  | b :: bs => b.toNat + 2 * bitsToNat bs

/-- The four Booleans in kind order. -/
def PerKind.toList {α : Type} (r : PerKind α) : List α := [r.answer, r.hangup, r.floor, r.yield]

/-- The Booleans of bits `i` to `i + 3` of a byte, in kind order (R18: ANSWER, HANGUP, FLOOR, YIELD). -/
def kindBits (b : Byte) (i : Nat) : PerKind Bool :=
  ⟨b.getLsbD i, b.getLsbD (i + 1), b.getLsbD (i + 2), b.getLsbD (i + 3)⟩

/-! ## Reading a frame (R3, R18) -/

/-- The kind a kind byte names (R14). -/
def frameKindOf (n : Nat) : Option FrameKind :=
  match n with
  | 1 => some .talk
  | 2 => some .presence
  | 3 => some .hail
  | 4 => some .leave
  | _ => none

/-- The status flags of a status flags byte; bits 5 to 7 are not examined (R3, R18). -/
def statusFlagsOf (b : Byte) : StatusFlags :=
  ⟨b.getLsbD 0, b.getLsbD 1, b.getLsbD 2, b.getLsbD 3, b.getLsbD 4⟩

/-- A list of stations on the air: each from 1 to 254, strictly ascending (R3). -/
def stationListOk (l : List Nat) : Bool :=
  l.all (fun n => decide (1 ≤ n ∧ n ≤ 254)) && decide (l.Pairwise (· < ·))

/-- The nine bytes of a header, with R3's checks of kind, source station, wearer and bridge flags. -/
def parseHeader : List Byte → Option (Header × List Byte)
  | k :: g1 :: g0 :: st :: w :: fl :: sq :: mic :: rf :: rest =>
    match frameKindOf k.toNat with
    | none => none
    | some kind =>
      if 1 ≤ st.toNat ∧ st.toNat ≤ 254 ∧ 1 ≤ w.toNat ∧ w.toNat ≤ 15 ∧
          ¬((statusFlagsOf fl).claim = true ∧ (statusFlagsOf fl).active = true) then
        some ({ kind := kind, group := BitVec.ofNat 16 (be16 g1 g0), station := st.toNat,
                wearer := w.toNat, seq := sq,
                sender := { flags := statusFlagsOf fl, micScore := mic.toNat,
                            toggles := kindBits rf 0, pending := kindBits rf 4 } }, rest)
      else none
  | _ => none

/-- `n` bytes as station numbers. -/
def parseStations : Nat → List Byte → Option (List Nat × List Byte)
  | 0, bs => some ([], bs)
  | n + 1, b :: bs =>
    match parseStations n bs with
    | some (l, rest) => some (b.toNat :: l, rest)
    | none => none
  | _ + 1, [] => none

/-- A count byte of at most 9 and so many stations in strictly ascending order: the roster list, or
what follows the admission code of a HAIL (R3, R18). -/
def parseStationList : List Byte → Option (List Nat × List Byte)
  | c :: bs =>
    if c.toNat ≤ 9 then
      match parseStations c.toNat bs with
      | some (l, rest) => if stationListOk l then some (l, rest) else none
      | none => none
    else none
  | [] => none

/-- `n` echo entries of two bytes each; the upper half of a toggle byte is not examined (R3). -/
def parseEchoes : Nat → List Byte → Option (List Echo × List Byte)
  | 0, bs => some ([], bs)
  | n + 1, st :: tg :: bs =>
    match parseEchoes n bs with
    | some (l, rest) => some (⟨st.toNat, kindBits tg 0⟩ :: l, rest)
    | none => none
  | _ + 1, _ => none

/-- The bridge extras with R3's checks. -/
def parseExtras : List Byte → Option (Extras × List Byte)
  | h :: hw :: t1 :: t0 :: e :: bs =>
    if h.toNat ≤ 254 ∧ hw.toNat ≤ 15 ∧ be16 t1 t0 ≤ 300 ∧ e.toNat ≤ 9 then
      match parseEchoes e.toNat bs with
      | some (l, rest) =>
        if stationListOk (l.map (·.station)) then some (⟨h.toNat, hw.toNat, be16 t1 t0, l⟩, rest)
        else none
      | none => none
    else none
  | _ => none

/-- `n` samples of two bytes each (section 1.5). -/
def parseSamples : Nat → List Byte → Option (List Sample × List Byte)
  | 0, bs => some ([], bs)
  | n + 1, hi :: lo :: bs =>
    match parseSamples n bs with
    | some (l, rest) => some (BitVec.ofNat 16 (be16 hi lo) :: l, rest)
    | none => none
  | _ + 1, _ => none

/-- One block of a section: flags (bits 2 to 7 not examined), a level of at most 32768, 32 samples. -/
def parseAirBlock : List Byte → Option (AirBlock × List Byte)
  | fl :: l1 :: l0 :: bs =>
    if be16 l1 l0 ≤ 32768 then
      match parseSamples 32 bs with
      | some (xs, rest) =>
        if h : xs.length = 32 then
          some (⟨fl.getLsbD 0, fl.getLsbD 1, be16 l1 l0, ⟨xs, h⟩⟩, rest)
        else none
      | none => none
    else none
  | _ => none

/-- `n` blocks of a section. -/
def parseAirBlocks : Nat → List Byte → Option (List AirBlock × List Byte)
  | 0, bs => some ([], bs)
  | n + 1, bs =>
    match parseAirBlock bs with
    | some (b, rest) =>
      match parseAirBlocks n rest with
      | some (l, rest') => some (b :: l, rest')
      | none => none
    | none => none

/-- A voice or call section of at most `limit` blocks (R3: 4, or 0 for the call section of a TALK
that does not show ACTIVE). -/
def parseSection (limit : Nat) : List Byte → Option (TalkSection × List Byte)
  | f1 :: f0 :: n :: bs =>
    if n.toNat ≤ limit then
      match parseAirBlocks n.toNat bs with
      | some (l, rest) => some (⟨BitVec.ofNat 16 (be16 f1 f0), l⟩, rest)
      | none => none
    else none
  | _ => none

/-- A frame of this kind carries bridge extras: TALK and PRESENCE that show ACTIVE (R14). -/
def Header.hasExtras (h : Header) : Bool :=
  h.sender.flags.active && (h.kind = .talk || h.kind = .presence)

/-- What follows the header and the extras (R14). -/
def parseBody (h : Header) (bs : List Byte) : Option (Body × List Byte) :=
  match h.kind with
  | .talk =>
    match parseSection sectionLimit bs with
    | some (v, bs') =>
      match parseSection (if h.sender.flags.active then sectionLimit else 0) bs' with
      | some (c, rest) => some (.talk v c, rest)
      | none => none
    | none => none
  | .presence =>
    match parseStationList bs with
    | some (l, rest) => some (.presence l, rest)
    | none => none
  | .hail =>
    match bs with
    | a :: b :: c :: d :: bs' =>
      match parseStationList bs' with
      | some (l, rest) => some (.hail (BitVec.ofNat 32 (be16 a b * 65536 + be16 c d)) l, rest)
      | none => none
    | _ => none
  | .leave => some (.leave, bs)

/-- The extras, when the header calls for them (R14). -/
def parseOptExtras (h : Header) (bs : List Byte) : Option (Option Extras × List Byte) :=
  if h.hasExtras then
    match parseExtras bs with
    | some (x, rest) => some (some x, rest)
    | none => none
  else some (none, bs)

/-- The well-formed frame that the bytes are, or none (R3). The length agrees exactly when the parts
use up all the bytes. -/
def parseFrame (bytes : List Byte) : Option Frame :=
  match parseHeader bytes with
  | none => none
  | some (h, bs) =>
    match parseOptExtras h bs with
    | none => none
    | some (x, bs') =>
      match parseBody h bs' with
      | some (b, []) => some ⟨h, x, b⟩
      | _ => none

/-! ## Writing a frame (R18) -/

/-- The code of a frame kind (R14). -/
def frameKindCode : FrameKind → Nat
  | .talk => 1
  | .presence => 2
  | .hail => 3
  | .leave => 4

/-- The status flags byte; bits 5 to 7 are sent as 0 (R18). -/
def statusFlagsNat (f : StatusFlags) : Nat :=
  bitsToNat [f.lead, f.muted, f.isolated, f.claim, f.active]

/-- The nine bytes of a header (R18). -/
def encodeHeader (h : Header) : List Byte :=
  [byte8 (frameKindCode h.kind)] ++ bytes16 h.group.toNat ++
    [byte8 h.station, byte8 h.wearer, byte8 (statusFlagsNat h.sender.flags), h.seq,
     byte8 h.sender.micScore,
     byte8 (bitsToNat (h.sender.toggles.toList ++ h.sender.pending.toList))]

/-- An echo entry; bits 4 to 7 of its toggle byte are sent as 0 (R18). -/
def encodeEcho (e : Echo) : List Byte := [byte8 e.station, byte8 (bitsToNat e.toggles.toList)]

/-- The bridge extras (R18). -/
def encodeExtras (x : Extras) : List Byte :=
  [byte8 x.holder, byte8 x.holderWearer] ++ bytes16 x.remaining ++ [byte8 x.echoes.length] ++
    x.echoes.flatMap encodeEcho

/-- A block of a section (R18). -/
def encodeAirBlock (b : AirBlock) : List Byte :=
  [byte8 (bitsToNat [b.isStart, b.isEnd])] ++ bytes16 b.level ++
    b.block.samples.flatMap (fun x => bytes16 x.toNat)

/-- A section (R18). -/
def encodeSection (t : TalkSection) : List Byte :=
  bytes16 t.first.toNat ++ [byte8 t.blocks.length] ++ t.blocks.flatMap encodeAirBlock

/-- A count and its stations (R18). -/
def encodeStationList (l : List Nat) : List Byte := byte8 l.length :: l.map byte8

/-- What follows the header and the extras (R14, R18). -/
def encodeBody : Body → List Byte
  | .talk v c => encodeSection v ++ encodeSection c
  | .presence l => encodeStationList l
  | .hail code l => bytes32 code.toNat ++ encodeStationList l
  | .leave => []

/-- The bytes of a frame (R18). -/
def encodeFrame (f : Frame) : List Byte :=
  encodeHeader f.header ++ (match f.extras with | some x => encodeExtras x | none => []) ++
    encodeBody f.body

/-! ## The configuration image (R182, R183, R184) -/

/-- Two bytes of the image at an offset, most significant first. -/
def imageWord (img : Image) (i : Nat) : Nat := (img.byteAt i) * 256 + img.byteAt (i + 1)

/-- Three bytes of the image at an offset, most significant first. -/
def imageTriple (img : Image) (i : Nat) : Nat :=
  (img.byteAt i) * 65536 + (img.byteAt (i + 1)) * 256 + img.byteAt (i + 2)

/-- The `n` bits of a field from bit `lo` on (bit 0 is the least significant, R182). -/
def fieldBits (v lo n : Nat) : Nat := v / 2 ^ lo % 2 ^ n

/-- The sum of bytes 0 to 69, modulo 65536 (R182). -/
def imageSum (img : Image) : Nat := (((img.bytes.take 70).map (·.toNat)).sum) % 65536

/-- The first check of R183 that fails, as its fault code; none when all pass. -/
def imageFault (img : Image) : Option FaultCode :=
  if fieldBits (img.byteAt 0) 0 4 ≠ 1 then some .format
  else if imageWord img 70 ≠ imageSum img then some .sum
  else if ¬(1 ≤ img.byteAt 1 ∧ img.byteAt 1 ≤ 254) then some .station
  else if fieldBits (img.byteAt 0) 4 4 = 0 then some .wearer
  else if imageWord img 2 = 0 ∨ imageWord img 2 = 0xFFFF then some .group
  else none

/-- A value moved to the nearer end of a range when it lies outside (R184). -/
def clampTo (lo hi v : Nat) : Nat := max lo (min hi v)

/-- A field value lies outside its setting's range (R184). -/
def outside (lo hi v : Nat) : Bool := v < lo || hi < v

/-- A duck target code: 4 × the code, and 1024 for 255 (R184). -/
def duckTarget (code : Nat) : Nat := if code = 255 then 1024 else 4 * code

/-- A step code: 2^(code - 1), with code 0 taken as 1 and codes above `top` as `top` (R184). -/
def stepOf (top code : Nat) : Nat := 2 ^ (clampTo 1 top code - 1)

/-- The field *J* of the image (R182). -/
def fieldJoin (img : Image) : Nat := fieldBits (img.byteAt 8) 0 6
/-- The field *G* of the image (R182). -/
def fieldGrant (img : Image) : Nat := fieldBits (img.byteAt 9) 3 5
/-- The field *W* of the image (R182). -/
def fieldWait (img : Image) : Nat := fieldBits (imageWord img 12) 12 4
/-- The field *H* of the image (R182). -/
def fieldHangover (img : Image) : Nat := fieldBits (imageTriple img 14) 17 7
/-- The attack step code of the image (R182). -/
def fieldAttack (img : Image) : Nat := fieldBits (img.byteAt 10) 4 4
/-- The release step code of the image (R182). -/
def fieldRelease (img : Image) : Nat := fieldBits (img.byteAt 11) 0 4
/-- The limiter release step code of the image (R182). -/
def fieldLimiter (img : Image) : Nat := fieldBits (img.byteAt 11) 4 4

/-- The map entry of wearer `w` (1 to 15): gain pair `w` and its exempt flag (R182). -/
def imageMapEntry (img : Image) (w : Nat) : MapEntry where
  ear := fieldBits (imageTriple img (25 + 3 * (w - 1))) 12 12
  up := fieldBits (imageTriple img (25 + 3 * (w - 1))) 0 12
  exempt := (imageTriple img 14).testBit (w - 1)

/-- The settings of an image that passes the checks, clamped (R182, R184). -/
def imageSettings (img : Image) : Settings where
  station := img.byteAt 1
  wearer := fieldBits (img.byteAt 0) 4 4
  group := BitVec.ofNat 16 (imageWord img 2)
  code := BitVec.ofNat 32 (imageWord img 4 * 65536 + imageWord img 6)
  joinTime := clampTo 10 60 (fieldJoin img)
  margin := fieldBits (img.byteAt 8) 6 2
  depth := fieldBits (img.byteAt 9) 0 3 + 1
  grantTime := clampTo 2 30 (fieldGrant img)
  guard := fieldBits (img.byteAt 10) 0 4
  packWait := clampTo 0 8 (fieldWait img)
  packCount := fieldBits (imageTriple img 14) 15 2 + 1
  hangover := clampTo 10 100 (fieldHangover img)
  quietThreshold := 16 * img.byteAt 17
  callThreshold := 16 * img.byteAt 18
  callTarget := duckTarget (img.byteAt 19)
  floorTarget := duckTarget (img.byteAt 20)
  duckHold := clampTo 0 250 (img.byteAt 21)
  attack := stepOf 11 (fieldAttack img)
  release := stepOf 11 (fieldRelease img)
  limiterRelease := stepOf 13 (fieldLimiter img)
  sidetone := fieldBits (imageTriple img 22) 0 12
  downlinkGain := fieldBits (imageTriple img 22) 12 12
  wearerMap := (List.range 15).map (fun i => imageMapEntry img (i + 1))

/-- The report mask of an image (R182). -/
def imageMask (img : Image) : BitVec 12 := BitVec.ofNat 12 (imageWord img 12)

/-- Some setting of the image was clamped (R184). -/
def imageClamped (img : Image) : Bool :=
  outside 10 60 (fieldJoin img) || outside 2 30 (fieldGrant img) || outside 0 8 (fieldWait img) ||
  outside 10 100 (fieldHangover img) || outside 0 250 (img.byteAt 21) ||
  outside 1 11 (fieldAttack img) || outside 1 11 (fieldRelease img) ||
  outside 1 13 (fieldLimiter img)

end Sys2Proof.Machine
end

