-- ==== Sys2Proof/Machine/Reports.lean ====
section
/-! DEFINITION. The report queue (R172) and the layout of the reports (R174 to R176). -/

namespace Sys2Proof.Machine

/-! ## The report queue (R172) -/

/-- Besides the one being sent, at most four REQUEST reports wait (R172). -/
def requestLimit : Nat := 4

/-- A formed report joins the queue; with nothing being sent it starts at once (assumption 20). -/
def State.pushReport (s : State) (r : Report) : State :=
  match s.cl.sending with
  | none => { s with cl := { s.cl with sending := some r } }
  | some _ => { s with cl := { s.cl with waiting := s.cl.waiting ++ [r] } }

/-- A report belongs to a STATUS and ROSTER pair. -/
def Report.inPair (r : Report) : Bool := r.kind ≠ .request

/-- A pair is waiting or being sent (R172). -/
def State.pairOnItsWay (s : State) : Bool :=
  s.cl.sending.any Report.inPair || s.cl.waiting.any Report.inPair

/-- How many REQUEST reports wait. -/
def State.requestsWaiting (s : State) : Nat :=
  (s.cl.waiting.filter (fun r => r.kind = .request)).length

/-- A report of a type with its fields: type byte, length byte, field bytes (section 9.2). -/
def mkReport (kind : ReportKind) (fields : List Byte) : Report :=
  let type : Nat := match kind with
    | .status => 1
    | .roster => 2
    | .request => 3
  ⟨kind, byte8 type :: byte8 fields.length :: fields⟩

/-- The REQUEST report of a kind with its merge count (R176). -/
def requestReport (k : LatchKind) (merges : Nat) : Report :=
  mkReport .request (byte8 (match k with | .answer => 0 | .hangup => 1) :: bytes16 merges)

/-- A REQUEST report is handed to the Control Line: with four waiting it is discarded and the
report-overflow count rises (R172, R176). -/
def State.formRequest (s : State) (k : LatchKind) : State :=
  if requestLimit ≤ s.requestsWaiting then
    { s with cl := { s.cl with reportOverflows := countUp s.cl.reportOverflows 1 } }
  else s.pushReport (requestReport k (s.cq.merges.get k))

/-! ## Field codes (R174, R175) -/

/-- The loader state's code. -/
def loaderCode : LoaderState → Nat
  | .loading => 0
  | .running => 1
  | .halted => 2

/-- The fault code's number (R183, R184). -/
def faultNumber : FaultCode → Nat
  | .noFault => 0
  | .clamped => 1
  | .format => 2
  | .sum => 3
  | .station => 4
  | .wearer => 5
  | .group => 6

/-- The bridge state's code. -/
def bridgeCode : BridgeState → Nat
  | .off => 0
  | .claiming => 1
  | .active => 2
  | .yielded => 3

/-- An outcome's code (R174). -/
def outcomeCode : ReqOutcome → Nat
  | .nothing => 0
  | .accepted => 1
  | .busy => 2
  | .timeout => 3
  | .late => 4
  | .dropped => 5

/-- A peer state's code (R175). -/
def peerStateCode : PeerState → Nat
  | .hailed => 0
  | .admitted => 1
  | .lost => 2

/-- A playout state's code (R174, R175). -/
def playoutCode : Playout → Nat
  | .idle => 0
  | .priming => 1
  | .playing => 2

/-- The last outcomes as one word, four bits per kind, ANSWER lowest (R174). -/
def outcomesWord (o : PerKind ReqOutcome) : Nat :=
  outcomeCode o.answer + 16 * outcomeCode o.hangup + 256 * outcomeCode o.floor +
    4096 * outcomeCode o.yield

/-- The floor holder a STATUS shows: the bridge's own while ACTIVE, else the floor view's (R174). -/
def State.shownHolder (s : State) : Option Nat :=
  if s.bu.state = .active then s.cq.holder else s.cq.view.map (·.station)

/-- The station flags byte of a STATUS (R174). -/
def State.stationFlags (s : State) : Nat :=
  bitsToNat [decide (s.wl.role = .lead), s.wl.stepDown, s.wl.ownMute, s.wearerMute, s.isolated,
    s.bu.callFlag, s.ru.window.isSome]

/-- The nineteen counts of a STATUS, in order (R174). -/
def State.statusCounts (s : State) : List Nat :=
  [s.lp.framesSent, s.lp.checkFailures, s.lp.foreignFrames, s.lp.numberClashes, s.ru.rosterFull,
   s.ru.codeMismatch, s.sa.sendDrops, s.me.ear.overloads, s.me.up.overloads, s.cl.unknownCommands,
   s.cl.reportOverflows, s.cq.merges.answer, s.cq.merges.hangup, s.rq.queue.counts.late,
   s.rq.queue.counts.slides, s.rq.queue.counts.resyncs, s.rq.queue.counts.concealed,
   s.rq.queue.counts.breaks, s.rq.slips]

/-- The 54 field bytes of a STATUS (R174). -/
def State.statusFields (s : State) : List Byte :=
  [byte8 (loaderCode s.sl.state), byte8 (faultNumber s.sl.fault), byte8 (bridgeCode s.bu.state),
   byte8 (s.bu.followed.getD 0), byte8 s.stationFlags] ++
  bytes16 s.cl.flags.toNat ++ bytes16 (outcomesWord s.cl.outcomes) ++
  [byte8 (bitsToNat [s.cq.latches.answer, s.cq.latches.hangup]), byte8 (s.shownHolder.getD 0),
   byte8 (s.floorWearer.getD 0), byte8 s.ru.peers.length, byte8 s.ru.departed.length,
   byte8 (playoutCode s.rq.queue.mode), byte8 s.rq.queue.depth] ++
  s.statusCounts.flatMap bytes16

/-- An entry is the carrier of its own wearer (R53, R175). -/
def State.isCarrier (s : State) (p : Peer) : Bool :=
  (s.carrier p.wearer).any (fun c => c.station = p.station)

/-- The 21 bytes of an entry's record in a ROSTER (R175). -/
def State.rosterRecord (s : State) (p : Peer) : List Byte :=
  let f := p.header.flags
  let c := (p.queue.map (·.counts)).getD QueueCounts.zero
  [byte8 p.station, byte8 p.wearer, byte8 (peerStateCode p.state),
   byte8 (bitsToNat [f.lead, f.muted, f.isolated, f.claim, f.active, s.isCarrier p, p.hailedMe,
     p.hailMark]),
   byte8 p.header.micScore,
   byte8 ((p.queue.map (fun q => playoutCode q.mode)).getD 3),
   byte8 ((p.queue.map RxQueue.depth).getD 0)] ++
  [p.frames, p.missed, c.late, c.slides, c.resyncs, c.concealed, c.breaks].flatMap bytes16

/-- The field bytes of a ROSTER (R175). -/
def State.rosterFields (s : State) : List Byte :=
  byte8 s.ru.peers.length :: s.ru.peers.flatMap s.rosterRecord

/-- The STATUS of the present state (R174). -/
def State.statusReport (s : State) : Report := mkReport .status s.statusFields

/-- The ROSTER of the present state (R175). -/
def State.rosterReport (s : State) : Report := mkReport .roster s.rosterFields

/-- A pair is formed (R173): both reports read the state as it stands, join the queue one after the
other, and the sticky flags and last outcomes are cleared. -/
def State.formPair (s : State) : State :=
  let s' := (s.pushReport s.statusReport).pushReport s.rosterReport
  { s' with cl := { s'.cl with flags := 0, outcomes := PerKind.all .nothing } }

end Sys2Proof.Machine
end

