-- ==== Sys2Proof/Machine/Requests.lean ====
section
/-! DEFINITION. The Call Request Unit (chapter 8): slots, echoes, the bridge's view of requests, call
latches, the floor and the floor view. -/

namespace Sys2Proof.Machine

/-! ## Outcomes and slots -/

/-- The slot is PENDING: its request timer runs (R145). -/
def Slot.pending (sl : Slot) : Bool := sl.timer.isSome

/-- An outcome is recorded as the last of its kind, and REQ_OUTCOME is set (R147, R179). -/
def State.record (s : State) (k : ReqKind) (o : ReqOutcome) : State :=
  State.setFlag { s with cl := { s.cl with outcomes := s.cl.outcomes.set k o } } .reqOutcome

/-- A slot is replaced. -/
def State.setSlot (s : State) (k : ReqKind) (sl : Slot) : State :=
  { s with cq := { s.cq with slots := s.cq.slots.set k sl } }

/-- The slot becomes IDLE with its timer stopped; toggle and late mark stay (R148, R153). -/
def Slot.settle (sl : Slot) : Slot := { sl with timer := none }

/-- An echoed toggle meets a slot (R148's table). -/
def State.echoKind (s : State) (k : ReqKind) (echoed : Bool) : State :=
  let sl := s.cq.slots.get k
  if echoed = sl.toggle then
    if sl.pending then (s.setSlot k sl.settle).record k .accepted
    else if sl.late then (s.setSlot k { sl with late := false }).record k .late
    else s
  else s

/-- The four kinds of one echo entry, in kind order (R148). -/
def State.takeEcho (s : State) (t : PerKind Bool) : State :=
  allKinds.foldl (fun s k => s.echoKind k (t.get k)) s

/-! ## The floor (section 8.4) -/

/-- The timer reading at which a grant that starts now ends: *G* seconds on (R159). -/
def State.grantEnds (s : State) : Nat := s.now + seconds s.cfg.grantTime

/-- A grant ends (R161): the floor passes to the head of the queue with a fresh grant, or falls
empty, and one floor change is made. -/
def State.endGrant (s : State) : State :=
  match s.cq.floorQueue with
  | [] => State.setFlag { s with cq := { s.cq with holder := none, grant := none } } .floorChange
  | n :: rest =>
    State.setFlag
      { s with cq := { s.cq with holder := some n, grant := some s.grantEnds, floorQueue := rest } }
      .floorChange

/-- A FLOOR request from a station is acted on (R159). -/
def State.requestFloor (s : State) (n : Nat) : State :=
  if s.cq.holder = some n then { s with cq := { s.cq with grant := some s.grantEnds } }
  else if n ∈ s.cq.floorQueue then s
  else if s.cq.holder.isSome then
    { s with cq := { s.cq with floorQueue := s.cq.floorQueue ++ [n] } }
  else State.setFlag { s with cq := { s.cq with holder := some n, grant := some s.grantEnds } }
    .floorChange

/-- A station leaves the floor: a YIELD from it (R160), or its loss or removal (R162). -/
def State.leaveFloor (s : State) (n : Nat) : State :=
  if s.cq.holder = some n then s.endGrant
  else { s with cq := { s.cq with floorQueue := s.cq.floorQueue.filter (· ≠ n) } }

/-! ## Call latches (R156) -/

/-- A request of a latch kind is acted on: a clear latch is set and a REQUEST report formed; a set
latch merges it (R156). -/
def State.setLatch (s : State) (k : LatchKind) : State :=
  if s.cq.latches.get k then
    { s with cq := { s.cq with merges := s.cq.merges.set k (countUp (s.cq.merges.get k) 1) } }
  else State.formRequest { s with cq := { s.cq with latches := s.cq.latches.set k true } } k

/-! ## Requests at the bridge (section 8.2) -/

/-- A prompt PRESENCE is asked for (R69). -/
def State.askPresence (s : State) : State := { s with sa := { s.sa with promptDue := true } }

/-- The bridge acts on a request of a station, and a prompt PRESENCE becomes due (R154). -/
def State.act (s : State) (k : ReqKind) (n : Nat) : State :=
  State.askPresence
    (match k with
     | .answer => s.setLatch .answer
     | .hangup => s.setLatch .hangup
     | .floor => s.requestFloor n
     | .yield => s.leaveFloor n)

/-- The new requests among a peer's kinds are acted on in kind order. -/
def State.actAll (s : State) (isNew : PerKind Bool) (n : Nat) : State :=
  allKinds.foldl (fun s k => if isNew.get k then s.act k n else s) s

/-- The last-seen toggles of an entry take a header's toggles. -/
def State.seeToggles (s : State) (n : Nat) (t : PerKind Bool) : State :=
  s.mapPeer n (fun p => { p with lastSeen := some t })

/-- A baseline of a peer from a header (R151): its toggles are recorded and every pending kind is a
new request. -/
def State.baseline (s : State) (n : Nat) (h : SenderState) : State :=
  (s.seeToggles n h.toggles).actAll h.pending n

/-- The kinds of a header that are new requests against a record: the toggle differs and the pending
bit is set (R152). -/
def newRequests (seen : PerKind Bool) (h : SenderState) : PerKind Bool where
  answer := h.toggles.answer != seen.answer && h.pending.answer
  hangup := h.toggles.hangup != seen.hangup && h.pending.hangup
  floor := h.toggles.floor != seen.floor && h.pending.floor
  yield := h.toggles.yield != seen.yield && h.pending.yield

/-- A header at the ACTIVE bridge: compared with the record (R152), or taken as a baseline when the
entry has none (R151). -/
def State.bridgeHeader (s : State) (n : Nat) (h : SenderState) : State :=
  match s.peer n with
  | none => s
  | some p =>
    match p.lastSeen with
    | none => s.baseline n h
    | some seen => (s.seeToggles n h.toggles).actAll (newRequests seen h) n

/-- The bridge's own pending slot of a kind at the entry into ACTIVE (R153). -/
def State.ownKind (s : State) (k : ReqKind) : State :=
  let sl := s.cq.slots.get k
  if sl.pending then ((s.setSlot k sl.settle).record k .accepted).act k s.own else s

/-- The bridge's own pending slots at the entry into ACTIVE, in kind order (R153). -/
def State.ownBaseline (s : State) : State := allKinds.foldl State.ownKind s

/-- A number put at its place in an ascending list. -/
def insertNat (n : Nat) : List Nat → List Nat
  | [] => [n]
  | m :: ms => if n ≤ m then n :: m :: ms else m :: insertNat n ms

/-- One station's part of the first view: the own slots for the own number, else the baseline of an
entry from its last-heard header (R153). -/
def State.firstLook (s : State) (n : Nat) : State :=
  if n = s.own then s.ownBaseline
  else match s.peer n with
    | some p => s.baseline n p.header
    | none => s

/-- The bridge term's first view of the group: ADMITTED peers and the own number, ascending (R153). -/
def State.firstView (s : State) : State :=
  let admitted := (s.ru.peers.filter (fun p => p.state = .admitted)).map (·.station)
  (insertNat s.own admitted).foldl State.firstLook s

/-- A set latch is cleared with DROPPED (R164). -/
def State.dropLatch (s : State) (k : LatchKind) : State :=
  if s.cq.latches.get k then
    State.record { s with cq := { s.cq with latches := s.cq.latches.set k false } }
      (latchReqKind k) .dropped
  else s

/-- The bridge term ends in the Call Request Unit (R164). -/
def State.endTerm (s : State) : State :=
  let s1 := s.setFlagIf s.cq.holder.isSome .floorChange
  let s2 := { s1 with cq := { s1.cq with holder := none, grant := none, floorQueue := [] } }
  let s3 := (s2.dropLatch .answer).dropLatch .hangup
  { s3 with ru := { s3.ru with peers := s3.ru.peers.map (fun p => { p with lastSeen := none }) } }

/-! ## The floor view and the hand-on of a header (R148, R167) -/

/-- The view that extras read at a time set: holder, wearer, and a timer of the time remaining; or
cleared when any of the three is 0 (R167). -/
def viewOf (now : Nat) (x : Extras) : Option FloorView :=
  if x.holder ≠ 0 ∧ x.holderWearer ≠ 0 ∧ 1 ≤ x.remaining then
    some { station := x.holder, wearer := x.holderWearer,
           timer := now + millis (x.remaining * 100) }
  else none

/-- The floor view takes the extras of the followed bridge (R167). -/
def State.takeView (s : State) (x : Extras) : State :=
  { s with cq := { s.cq with view := viewOf s.now x } }

/-- The requester side reads the extras of the followed bridge: the echo for its own number (R148)
and the floor view (R167). Extras of any other station are read by no block (R144). -/
def State.takeExtras (s : State) (n : Nat) (x : Extras) : State :=
  if s.bu.followed = some n then
    let s1 := match x.echoes.find? (fun e => e.station = s.own) with
      | some e => s.takeEcho e.toggles
      | none => s
    s1.takeView x
  else s

/-- The Call Request Unit takes a header handed on under R23, with extras when present. -/
def State.requestHeader (s : State) (n : Nat) (h : SenderState) (x : Option Extras) : State :=
  let s1 := if s.bu.state = .active then s.bridgeHeader n h else s
  match x with
  | some x => s1.takeExtras n x
  | none => s1

/-- A loss or removal notice of a peer at the Call Request Unit (R38, R162). -/
def State.floorNotice (s : State) (n : Nat) : State :=
  if s.bu.state = .active then s.leaveFloor n else s

/-- The station's own LEAVE command at the Call Request Unit (R165), after the peer table is empty:
slots IDLE with marks clear; at an ACTIVE bridge the peers leave the floor. -/
def State.leaveRequests (s : State) : State :=
  let idle (sl : Slot) : Slot := { sl with timer := none, late := false }
  let slots : PerKind Slot :=
    ⟨idle s.cq.slots.answer, idle s.cq.slots.hangup, idle s.cq.slots.floor, idle s.cq.slots.yield⟩
  let s1 := { s with cq := { s.cq with
    slots := slots, floorQueue := s.cq.floorQueue.filter (· = s.own) } }
  match s1.cq.holder with
  | some n => if n = s1.own then s1 else s1.endGrant
  | none => s1

end Sys2Proof.Machine
end

