-- ==== Sys2Proof/Machine/Send.lean ====
section
/-! DEFINITION. The Send Assembler (chapter 4): the send queue, what is due, the choice of a frame,
and its forming. -/

namespace Sys2Proof.Machine

/-! ## The send queue (section 4.4) -/

/-- Send drops are counted and flagged (R66, R67). -/
def State.countDrops (s : State) (n : Nat) : State :=
  State.setFlagIf { s with sa := { s.sa with sendDrops := countUp s.sa.sendDrops n } }
    (decide (0 < n)) .sendDrop

/-- An entry joins the send queue; a full queue first drops its oldest (R66). -/
def State.joinQueue (s : State) (e : SendEntry) : State :=
  let full := decide (sendLimit ≤ s.sa.queue.length)
  let s1 := s.countDrops full.toNat
  { s1 with sa := { s1.sa with
    queue := (if full then s1.sa.queue.drop 1 else s1.sa.queue) ++ [e] } }

/-- Entries 12 or more before the capture count are removed as send drops (R67). -/
def State.ageQueue (s : State) : State :=
  let kept := s.sa.queue.filter (fun e => seqAhead e.seq s.cu.captureCount < sendLimit)
  let s1 := s.countDrops (s.sa.queue.length - kept.length)
  { s1 with sa := { s1.sa with queue := kept } }

/-- Every CALL entry is removed, uncounted (R65). -/
def State.removeCalls (s : State) : State :=
  { s with sa := { s.sa with queue := s.sa.queue.filter (fun e => e.tag = .voice) } }

/-- The queued entries of a tag, oldest first. -/
def State.tagged (s : State) (t : Tag) : List SendEntry := s.sa.queue.filter (fun e => e.tag = t)

/-! ## When each kind is due (section 4.5) -/

/-- The age of an entry in ms: 2 per boundary (R68). -/
def State.ageMs (s : State) (e : SendEntry) : Nat := 2 * seqAhead e.seq s.cu.captureCount

/-- TALK is due (R68). -/
def State.talkDue (s : State) : Bool :=
  match s.sa.queue with
  | [] => false
  | e :: _ =>
    decide (s.cfg.packCount ≤ (s.tagged .voice).length) ||
    decide (s.cfg.packCount ≤ (s.tagged .call).length) ||
    (s.tagged .voice).any (·.isEnd) || decide (s.cfg.packWait ≤ s.ageMs e) || s.isolated

/-- The first due kind in R72's order. -/
def State.chooseKind (s : State) : Option FrameKind :=
  if s.sa.leaveDue then some .leave
  else if s.sa.hailDue then some .hail
  else if s.sa.promptDue then some .presence
  else if s.talkDue then some .talk
  else if s.sa.scheduledDue then some .presence
  else none

/-- The frame-due indication (R72): RUNNING with some kind due. -/
def State.frameDue (s : State) : Bool := decide s.running && s.chooseKind.isSome

/-! ## Forming a frame (section 4.6) -/

/-- The oldest entries of a tag up to `n`, stopping at the first gap in sequence (R73). -/
def takeRun : Nat → List SendEntry → List SendEntry
  | 0, _ => []
  | _ + 1, [] => []
  | _ + 1, [e] => [e]
  | n + 1, e :: f :: rest =>
    if f.seq = e.seq + 1 then e :: takeRun n (f :: rest) else [e]

/-- The queue without its first `n` entries of a tag. -/
def dropTagged (t : Tag) : Nat → List SendEntry → List SendEntry
  | 0, q => q
  | _ + 1, [] => []
  | n + 1, e :: q => if e.tag = t then dropTagged t n q else e :: dropTagged t (n + 1) q

/-- The entries of a tag that a TALK formed now takes (R73). -/
def State.run (s : State) (t : Tag) : List SendEntry := takeRun sectionLimit (s.tagged t)

/-- An entry as a block on the air (R16, R73). -/
def SendEntry.air (e : SendEntry) : AirBlock := ⟨e.isStart, e.isEnd, e.level, e.block⟩

/-- The section of a run; an empty one carries the capture count plus 1 (R16, R73). -/
def State.talkSection (s : State) (run : List SendEntry) : TalkSection where
  first := match run with
    | e :: _ => e.seq
    | [] => s.cu.captureCount + 1
  blocks := run.map SendEntry.air

/-- The station's own header state at the forming (R15). -/
def State.senderState (s : State) : SenderState where
  flags := { lead := decide (s.wl.role = .lead), muted := s.wl.ownMute, isolated := s.isolated,
             claim := decide (s.bu.state = .claiming), active := decide (s.bu.state = .active) }
  micScore := s.micScore
  toggles := ⟨s.cq.slots.answer.toggle, s.cq.slots.hangup.toggle, s.cq.slots.floor.toggle,
              s.cq.slots.yield.toggle⟩
  pending := ⟨s.cq.slots.answer.pending, s.cq.slots.hangup.pending, s.cq.slots.floor.pending,
              s.cq.slots.yield.pending⟩

/-- The header of a frame formed now (R15). -/
def State.header (s : State) (k : FrameKind) : Header where
  kind := k
  group := s.cfg.group
  station := s.own
  wearer := s.cfg.wearer
  seq := s.sa.frameSeq
  sender := s.senderState

/-- The floor time remaining in units of 100 ms, rounded up and at least 1 while there is a holder
(R163). -/
def State.floorRemaining (s : State) : Nat :=
  match s.cq.holder, s.cq.grant with
  | some _, some t => max 1 ((t - s.now + (millis 100 - 1)) / millis 100)
  | _, _ => 0

/-- The echo list: each ADMITTED entry with last-seen toggles (R155). -/
def State.echoList (s : State) : List Echo :=
  s.ru.peers.filterMap (fun p =>
    if p.state = .admitted then p.lastSeen.map (fun t => ⟨p.station, t⟩) else none)

/-- The bridge extras of a frame formed now (R155, R163). -/
def State.extras (s : State) : Extras where
  holder := s.cq.holder.getD 0
  holderWearer := (s.cq.holder.bind s.wearerOf).getD 0
  remaining := s.floorRemaining
  echoes := s.echoList

/-- The roster list: the ADMITTED peers, ascending (R74). -/
def State.rosterList (s : State) : List Nat :=
  (s.ru.peers.filter (fun p => p.state = .admitted)).map (·.station)

/-- The heard list: entries with their hail mark set that are HAILED or ADMITTED, ascending (R27). -/
def State.heardList (s : State) : List Nat :=
  (s.ru.peers.filter (fun p => p.hailMark && p.state ≠ .lost)).map (·.station)

/-- What follows the header and extras of a frame formed now (R74). -/
def State.body (s : State) : FrameKind → Body
  | .talk => .talk (s.talkSection (s.run .voice)) (s.talkSection (s.run .call))
  | .presence => .presence s.rosterList
  | .hail => .hail s.cfg.code s.heardList
  | .leave => .leave

/-- The frame of a kind formed now (R74). -/
def State.frame (s : State) (k : FrameKind) : Frame where
  header := s.header k
  extras := if (s.header k).hasExtras then some s.extras else none
  body := s.body k

/-- What forming a frame of a kind does to the due conditions and the queue (R69 to R71, R73). -/
def SendAssembler.formed (sa : SendAssembler) (now : Nat) (voices calls : Nat) :
    FrameKind → SendAssembler
  | .talk => { sa with queue := dropTagged .call calls (dropTagged .voice voices sa.queue) }
  | .presence =>
    { sa with scheduledDue := false, promptDue := false, promotionTimer := none,
              presenceTimer := some (now + presenceInterval) }
  | .hail => { sa with hailDue := false, hailTimer := some (now + hailInterval) }
  | .leave => { sa with leaveDue := false }

/-- The Send Assembler forms a frame of a kind: the due conditions and the queue change, and the
frame sequence advances (R74). -/
def State.formFrame (s : State) (k : FrameKind) : State × Frame :=
  let sa := s.sa.formed s.now (s.run .voice).length (s.run .call).length k
  ({ s with sa := { sa with frameSeq := sa.frameSeq + 1 } }, s.frame k)

/-! ## The join window at the Send Assembler (R70) -/

/-- The window has opened: HAIL becomes due at once (R70). -/
def State.hailOpen (s : State) : State := { s with sa := { s.sa with hailDue := true } }

/-- The window has closed: HAIL is not due and the hail timer stops (R70). -/
def State.hailClose (s : State) : State :=
  { s with sa := { s.sa with hailDue := false, hailTimer := none } }

end Sys2Proof.Machine
end

