-- ==== Sys2Proof/Machine/Bridge.lean ====
section
/-! DEFINITION. The Bridge Unit (chapter 7): claiming, taking and leaving the role, the followed
bridge. -/

namespace Sys2Proof.Machine

/-- A lower claimer (R130): ADMITTED, lower-numbered, showing CLAIM or ACTIVE. -/
def State.isLowerClaimer (s : State) (p : Peer) : Bool :=
  p.state = .admitted && decide (p.station < s.own) &&
    (p.header.flags.claim || p.header.flags.active)

/-- A lower claimer exists. -/
def State.lowerClaimer (s : State) : Bool := s.ru.peers.any s.isLowerClaimer

/-- The followed bridge as R142 gives it. -/
def State.bridgeInView (s : State) : Option Nat :=
  if s.bu.state = .active then some s.own
  else (s.ru.peers.find? (fun p => p.state = .admitted && p.header.flags.active)).map (·.station)

/-- The followed bridge is evaluated (R142); a change sets BRIDGE_CHANGE, flushes the downlink queue
and clears the floor view (R143, R99, R168). -/
def State.evaluateFollowed (s : State) : State :=
  if s.bridgeInView = s.bu.followed then s
  else
    let s1 := State.setFlag { s with bu := { s.bu with followed := s.bridgeInView } } .bridgeChange
    let s2 := s1.flushDownlink
    { s2 with cq := { s2.cq with view := none } }

/-- The Bridge Unit enters YIELDED and sets BRIDGE_YIELD; the settle timer stops (R133, R136). -/
def State.enterYielded (s : State) : State :=
  State.setFlag { s with bu := { s.bu with state := .yielded, settle := none } } .bridgeYield

/-- The Bridge Unit enters CLAIMING: the settle timer starts, and it yields at once when a lower
claimer exists (R131). -/
def State.enterClaiming (s : State) : State :=
  let s1 := { s with bu := { s.bu with state := .claiming, settle := some (s.now + settleTime) } }
  if s1.lowerClaimer then s1.enterYielded else s1

/-- What the other blocks do when the Bridge Unit leaves ACTIVE (R137): CALL entries go (R65) and
the bridge term ends (R164). The followed bridge is evaluated by the caller once the new bridge
state is set. -/
def State.leaveActive (s : State) : State := s.removeCalls.endTerm

/-- The Bridge Unit enters OFF from any state (R129, R139): the settle timer stops, and the leaving
effects follow from ACTIVE. -/
def State.enterOff (s : State) : State :=
  let s1 := if s.bu.state = .active then s.leaveActive else s
  { s1 with bu := { s1.bu with state := .off, settle := none } }

/-- The Bridge Unit enters ACTIVE (R134): it follows itself (R142, R143), the uplink bus is set to
rest (R124), and the Call Request Unit takes its first view (R153). -/
def State.enterActive (s : State) : State :=
  let s1 := State.evaluateFollowed { s with bu := { s.bu with state := .active, settle := none } }
  let s2 := { s1 with me := { s1.me with up := { s1.me.up with duck := 1024, limiter := 32768 } } }
  s2.firstView

/-- The bridge state is evaluated after an event (R130): R133 in CLAIMING, R136 in ACTIVE, R138 in
YIELDED, nothing in OFF. -/
def State.evaluateState (s : State) : State :=
  match s.bu.state with
  | .off => s
  | .claiming => if s.lowerClaimer then s.enterYielded else s
  | .active => if s.lowerClaimer then s.leaveActive.enterYielded else s
  | .yielded => if s.lowerClaimer then s else s.enterClaiming

/-- An evaluation of the Bridge Unit: its state, then the followed bridge (R130). -/
def State.evaluateBridge (s : State) : State := s.evaluateState.evaluateFollowed

end Sys2Proof.Machine
end

