-- ==== Sys2Proof/Machine/Link.lean ====
section
/-! DEFINITION. The Link Port (chapter 1): medium access, and the radio port's commands other than
FRAME_ARRIVAL. -/

namespace Sys2Proof.Machine

/-! ## Medium access (section 1.2) -/

/-- The receive hold (section 1.1): raised while SENDING or in TURNAROUND. -/
def State.receiveHold (s : State) : Bool :=
  s.lp.access = .sending || s.lp.access = .turnaround

/-- The medium has been idle for the quiet gap (R5): the level is idle and the idle mark is at least
150 µs back. -/
def State.quietForGap (s : State) : Bool :=
  !s.ports.mediumBusy &&
    match s.lp.idleMark with
    | some m => decide (m + quietGap ≤ s.now)
    | none => false

/-- The Link Port enters IDLE with its backoff count dropped and CW kept (R8, R9). -/
def State.linkIdle (s : State) : State :=
  { s with lp := { s.lp with access := .idle, backoff := none, slotEnd := none } }

/-- The Link Port asks for a frame (R8): with one it hands the frame to the radio and enters SENDING,
with nothing it enters IDLE. -/
def State.ask (s : State) : State :=
  match s.chooseKind with
  | none => s.linkIdle
  | some k =>
    let r := s.formFrame k
    { r.1 with lp := { r.1.lp with access := .sending, backoff := none, slotEnd := none },
               ports := { r.1.ports with radioOut := some (encodeFrame r.2) } }

/-- The next backoff count: the free draw taken modulo CW (R6, assumption 3). -/
def State.drawBackoff (s : State) (cw : Nat) : Nat := Config.backoffDraw s.lp.draws % cw

/-- CW doubled, to at most 64 (R6). -/
def State.doubledCw (s : State) : Nat := min cwMax (2 * s.lp.cw)

/-- The Link Port defers: CW doubles, a backoff count is drawn, DEFER is entered (R6). -/
def State.deferAccess (s : State) : State :=
  { s with lp := { s.lp with access := .defer, cw := s.doubledCw,
                             backoff := some (s.drawBackoff s.doubledCw), slotEnd := none,
                             draws := s.lp.draws + 1 } }

/-- The access procedure starts (R6). -/
def State.accessStart (s : State) : State := if s.quietForGap then s.ask else s.deferAccess

/-- The Link Port's reaction to the frame-due indication after an event: a rise in IDLE starts the
access procedure (R6), a fall in DEFER abandons it (R9) (assumption 7). -/
def State.linkReact (s : State) : State :=
  match s.lp.access with
  | .idle => if s.frameDue then s.accessStart else s
  | .defer => if s.frameDue then s else s.linkIdle
  | .sending => s
  | .turnaround => s

/-- The Link Port takes changes of the medium level: RUNNING, in IDLE or DEFER (R5, R13). -/
def State.linkListens (s : State) : Bool :=
  decide s.running && (s.lp.access = .idle || s.lp.access = .defer)

/-- TURNAROUND ends (R11): the idle mark becomes the moment of the send-done when the level is idle
(R5), and the access procedure starts when a frame is due, else IDLE is entered. -/
def State.endTurnaround (s : State) (sentAt : Nat) : State :=
  State.linkReact
    { s with lp := { s.lp with
      access := .idle, sendDoneAt := none,
      idleMark := if s.ports.mediumBusy then s.lp.idleMark else some sentAt } }

/-- The turnaround guard in timer readings: units of 20 µs (R10). -/
def State.guardTicks (s : State) : Nat := micros (20 * s.cfg.guard)

/-! ## The commands -/

/-- MEDIUM_BUSY (R5, R7): the level is busy; in DEFER the slot in progress is lost. -/
def execMediumBusy (s : State) : Host.Outcome State Fault Refusal :=
  let s1 := { s with ports := { s.ports with mediumBusy := true } }
  .next (if s.linkListens then { s1 with lp := { s1.lp with slotEnd := none } } else s1)

/-- MEDIUM_IDLE (R5): the level is idle; a change from busy in IDLE or DEFER sets the idle mark. -/
def execMediumIdle (s : State) : Host.Outcome State Fault Refusal :=
  let s1 := { s with ports := { s.ports with mediumBusy := false } }
  .next (if s.linkListens && s.ports.mediumBusy then
    { s1 with lp := { s1.lp with idleMark := some s.now } } else s1)

/-- QUIET_GAP_REACHED (R7): in DEFER on an idle medium, before slots are counted, the quiet gap ends:
with count 0 a frame is asked for, else the first slot begins. -/
def execQuietGapReached (s : State) : Host.Outcome State Fault Refusal :=
  match s.lp.access, s.lp.idleMark, s.lp.slotEnd with
  | .defer, some m, none =>
    if s.ports.mediumBusy then .next s
    else
      let s1 := s.catchUp (m + quietGap)
      .next (if s1.lp.backoff.getD 0 = 0 then s1.ask
        else { s1 with lp := { s1.lp with slotEnd := some (m + quietGap + backoffSlot) } })
  | _, _, _ => .next s

/-- BACKOFF_SLOT_END (R7): the slot in progress ends and lowers the count; at 0 a frame is asked for,
else the next slot begins at once. -/
def execBackoffSlotEnd (s : State) : Host.Outcome State Fault Refusal :=
  match s.lp.access, s.lp.slotEnd with
  | .defer, some t =>
    let n := s.lp.backoff.getD 0 - 1
    let s1 := s.catchUp t
    let s2 := { s1 with lp := { s1.lp with backoff := some n, slotEnd := some (t + backoffSlot) } }
    .next (if n = 0 then s2.ask else s2)
  | _, _ => .next s

/-- SEND_DONE (R10): in SENDING, CW returns to 8, a frame sent is counted and TURNAROUND begins,
which with a guard of 0 ends at once (R11); disregarded in the other states. -/
def execSendDone (s : State) : Host.Outcome State Fault Refusal :=
  match s.lp.access with
  | .sending =>
    let s1 := { s with lp := { s.lp with
      access := .turnaround, cw := cwRest, framesSent := countUp s.lp.framesSent 1,
      sendDoneAt := some s.now } }
    .next (if s.cfg.guard = 0 then s1.endTurnaround s.now else s1)
  | .idle => .next s
  | .defer => .next s
  | .turnaround => .next s

/-- TURNAROUND_EXPIRY (R11): the turnaround timer expires and TURNAROUND ends. -/
def execTurnaroundExpiry (s : State) : Host.Outcome State Fault Refusal :=
  match s.lp.access, s.lp.sendDoneAt with
  | .turnaround, some t => .next ((s.catchUp (t + s.guardTicks)).endTurnaround t)
  | _, _ => .next s

/-- HAIL_TIMER_EXPIRY (R70): the hail timer expires; with the window open HAIL is due again. -/
def execHailTimerExpiry (s : State) : Host.Outcome State Fault Refusal :=
  match s.sa.hailTimer with
  | some t =>
    let s1 := s.catchUp t
    .next (State.linkReact { s1 with sa := { s1.sa with
      hailTimer := none, hailDue := s1.sa.hailDue || s1.ru.window.isSome } })
  | none => .next s

/-- PRESENCE_TIMER_EXPIRY (R69): the presence timer reaches 100 ms and a scheduled PRESENCE is due. -/
def execPresenceTimerExpiry (s : State) : Host.Outcome State Fault Refusal :=
  match s.sa.presenceTimer with
  | some t =>
    let s1 := s.catchUp t
    .next (State.linkReact { s1 with sa := { s1.sa with
      presenceTimer := none, scheduledDue := true,
      promotionTimer := some (t + presenceInterval) } })
  | none => .next s

/-- PRESENCE_PROMOTION (R69): a scheduled PRESENCE due for 100 ms becomes a prompt one
(assumption 14). -/
def execPresencePromotion (s : State) : Host.Outcome State Fault Refusal :=
  match s.sa.promotionTimer with
  | some t =>
    let s1 := s.catchUp t
    .next { s1 with sa := { s1.sa with
      scheduledDue := false, promptDue := true, promotionTimer := none } }
  | none => .next s

end Sys2Proof.Machine
end

