-- ==== Sys2Proof/Machine/Boundary.lean ====
section
/-! DEFINITION. The block boundary (R57): the Capture Unit (sections 4.1 to 4.3), the send queue, the
playout of every queue and the mix; and the changes of AUDIO_READY. -/

namespace Sys2Proof.Machine

/-! ## The Capture Unit -/

/-- The smoothed level moves toward a block's level by one sixteenth of the difference, rounded
toward minus infinity (R58). -/
def smooth (avg level : Nat) : Nat := ((avg : Int) + ((level : Int) - avg) / 16).toNat

/-- What R59's table gives for one block: the new spurt state, the hangover count, and the tags. -/
structure SpurtStep where
  spurt : Spurt
  hangover : Nat
  isStart : Bool
  isEnd : Bool
  deriving DecidableEq, Repr

/-- R59's table: state, count, and whether the block is a voice block, with hangover length `len`. -/
def spurtStep (len : Nat) (st : Spurt) (count : Nat) (voice : Bool) : SpurtStep :=
  match st, voice with
  | .quiet, true => ⟨.talking, 0, true, false⟩
  | .quiet, false => ⟨.quiet, 0, false, false⟩
  | .talking, true => ⟨.talking, 0, false, false⟩
  | .talking, false => ⟨.hangover, 1, false, false⟩
  | .hangover, true => ⟨.talking, 0, false, false⟩
  | .hangover, false =>
    if count + 1 < len then ⟨.hangover, count + 1, false, false⟩ else ⟨.quiet, 0, false, true⟩

/-- The Capture Unit counts and measures a block (R57, R58). -/
def State.measure (s : State) (mic : Block) : State :=
  { s with cu := { s.cu with
    captureCount := s.cu.captureCount + 1, avg := smooth s.cu.avg mic.level } }

/-- A voice block: its level is greater than *Tq* (R59). -/
def State.isVoice (s : State) (mic : Block) : Bool := decide (s.cfg.quietThreshold < mic.level)

/-- The spurt in progress is being sent (R60). -/
def State.sending (s : State) : Bool := s.cu.spurt ≠ .quiet && s.cu.spurtSent

/-- A spurt that starts now is sent: the role is LEAD and the wearer mute is off (R60). -/
def State.startsSent (s : State) : Bool := s.wl.role = .lead && !s.wearerMute

/-- The spurt ends at a boundary where the wearer is muted during a sent spurt: QUIET, and a zeroed
END entry (R61). -/
def State.muteSpurt (s : State) : State × Option SendEntry :=
  ({ s with cu := { s.cu with spurt := .quiet, hangover := 0, spurtSent := false } },
   some ⟨.voice, s.cu.captureCount, Block.silence, 0, false, true⟩)

/-- The spurt state advances under R59; a block of a sent spurt is an entry for the send queue (R60,
R61). -/
def State.advanceSpurt (s : State) (mic : Block) : State × Option SendEntry :=
  let st := spurtStep s.cfg.hangover s.cu.spurt s.cu.hangover (s.isVoice mic)
  let sent := if st.isStart then s.startsSent else s.sending
  ({ s with cu := { s.cu with
      spurt := st.spurt, hangover := st.hangover, spurtSent := sent && st.spurt ≠ .quiet } },
   if sent then some ⟨.voice, s.cu.captureCount, mic, mic.level, st.isStart, st.isEnd⟩ else none)

/-- The Capture Unit takes a boundary (R57 to R61): the state it leaves, and the VOICE entry of the
boundary, if any. -/
def State.capture (s : State) (mic : Block) : State × Option SendEntry :=
  let s1 := s.measure mic
  if s1.sending && s1.wearerMute then s1.muteSpurt else s1.advanceSpurt mic

/-! ## The boundary -/

/-- The CALL entry of a boundary at an ACTIVE bridge (R64). -/
def State.callEntry (s : State) (call : Block) : SendEntry :=
  ⟨.call, s.cu.captureCount, call, call.level, false, false⟩

/-- The entries of a boundary join the send queue after it is aged: VOICE first, then CALL at an
ACTIVE bridge (R64, R66, R67). -/
def State.joinEntries (s : State) (voice : Option SendEntry) (call : Block) : State :=
  let s1 := s.ageQueue
  let s2 := match voice with
    | some e => s1.joinQueue e
    | none => s1
  if s2.bu.state = .active then s2.joinQueue (s2.callEntry call) else s2

/-- Every queue takes its playout step and the Mix Engine mixes their outputs (R86, R104, R105). -/
def State.playAndMix (s : State) (mic call : Block) (sent : Option Block) : State :=
  let d := s.rq.step s.cfg.depth s.cfg.quietThreshold
  let s1 := s.mixBoundary { sidetone := mic, sent := sent, call := call, downlink := d.2 }
  { s1 with rq := d.1, ru := { s1.ru with peers := playPeers s1.cfg.depth s1.ru.peers } }

/-- A boundary taken (R57): capture, send queue, a step-down that waited for QUIET (R51), playout and
mix, then the Link Port. -/
def State.boundary (s : State) (mic call : Block) : State :=
  let c := s.capture mic
  let s1 := (c.1.joinEntries c.2 call).stepDownEffect
  (s1.playAndMix mic call (c.2.map (·.block))).linkReact

/-- A boundary not taken hands 32 zero samples to both ports (R104). -/
def State.silentBoundary (s : State) : State :=
  { s with ports := { s.ports with earOut := Block.silence, callOut := Block.silence } }

/-- BLOCK_BOUNDARY (R57, R104). Boundaries occur only while AUDIO_READY is high (assumption 9). -/
def execBlockBoundary (mic call : Block) (s : State) : Host.Outcome State Fault Refusal :=
  .next (if s.isolated then s else if s.running then s.boundary mic call else s.silentBoundary)

/-! ## AUDIO_READY -/

/-- The Wearer Logic at a fall: isolated, STANDBY, no step-down pending (R44). -/
def State.isolate (s : State) : State :=
  { s with ports := { s.ports with audioReady := false },
           wl := { s.wl with role := .standby, stepDown := false } }

/-- A spurt in progress ends without an END block (R62). -/
def State.cutSpurt (s : State) : State :=
  { s with cu := { s.cu with spurt := .quiet, hangover := 0, spurtSent := false } }

/-- AUDIO_READY_FALL (R44, R62, R139). While the loader is not RUNNING only the Wearer Logic acts
(R56, R180). -/
def execAudioReadyFall (s : State) : Host.Outcome State Fault Refusal :=
  .next (if s.isolated then s
    else if s.running then s.isolate.cutSpurt.enterOff.evaluateFollowed.linkReact
    else s.isolate)

/-- The Wearer Logic at a rise: not isolated, and the role is evaluated (R45). -/
def State.rejoin (s : State) : State :=
  State.evaluateRole { s with ports := { s.ports with audioReady := true } }

/-- The score starts afresh at a rise (R58, R62). -/
def State.freshScore (s : State) : State := { s with cu := { s.cu with avg := 0 } }

/-- The Bridge Unit at a rise: it claims when the call flag is set (R139). -/
def State.claimAtRise (s : State) : State :=
  if s.bu.callFlag && s.bu.state = .off then s.enterClaiming else s

/-- AUDIO_READY_RISE (R45, R58, R100, R125, R139). While the loader is not RUNNING only the Wearer
Logic acts (R56, R180). -/
def execAudioReadyRise (s : State) : Host.Outcome State Fault Refusal :=
  .next (if !s.isolated then s
    else if s.running then
      s.rejoin.flushAll.restMix.freshScore.claimAtRise.evaluateFollowed.linkReact
    else s.rejoin)

end Sys2Proof.Machine
end

