-- ==== Sys2Proof/Decode.lean ====
section
/-! DEFINITION. What a word or a control-line byte spells (R169, R171). -/

namespace Sys2Proof

/-- The command that a word spells by the bits of spec/opcode_table.json. No row of the table has
bits ("fields" is empty and no row has "fixed"), so no word spells a command (assumption 17). -/
def decodeTableWord (_nbits _w : Nat) : Option Instr := none

/-- The request kind a REQ argument names (R169's table): 0 to 3. -/
def reqKindOf (arg : Nat) : Option ReqKind :=
  match arg with
  | 0 => some .answer
  | 1 => some .hangup
  | 2 => some .floor
  | 3 => some .yield
  | _ => none

/-- The kind a DONE argument names (R169's table): 0 ANSWER, 1 HANGUP. -/
def latchKindOf (arg : Nat) : Option LatchKind :=
  match arg with
  | 0 => some .answer
  | 1 => some .hangup
  | _ => none

/-- The command that a byte of the receive line names: the upper four bits name the command, the
lower four are its argument (table of section 9.1; the bytes of R171's list name none). -/
def commandOfByte (b : Byte) : Option Instr :=
  let arg := b.toNat % 16
  let plain (c : Instr) : Option Instr := if arg = 0 then some c else none
  match b.toNat / 16 with
  | 1 => plain .join
  | 2 => plain .leave
  | 3 => plain .muteOn
  | 4 => plain .muteOff
  | 5 => plain .callOn
  | 6 => plain .callOff
  | 7 => (reqKindOf arg).map .req
  | 8 => (latchKindOf arg).map .done
  | 9 => plain .status
  | _ => none

/-- The command that arrives with a byte whose stop bit was or was not found (R169, R171). A byte
without its stop bit is UNKNOWN_COMMAND in every loader state, a STATUS byte in HALTED too (the model's
choice beside R170, assumption 22). -/
def commandOfLine (b : Byte) (stopBit : Bool) : Instr :=
  match stopBit, commandOfByte b with
  | true, some c => c
  | _, _ => .unknownCommand b stopBit

/-- The number of a request kind (chapter 8's table). -/
def reqKindNumber : ReqKind → Nat
  | .answer => 0
  | .hangup => 1
  | .floor => 2
  | .yield => 3

/-- The number of a latch kind (chapter 8's table). -/
def latchKindNumber : LatchKind → Nat
  | .answer => 0
  | .hangup => 1

/-- The byte with which the microcontroller sends a command (table of section 9.1). -/
def byteOfCommand (c : Instr) : Option Byte :=
  match c with
  | .join => some 0x10#8
  | .leave => some 0x20#8
  | .muteOn => some 0x30#8
  | .muteOff => some 0x40#8
  | .callOn => some 0x50#8
  | .callOff => some 0x60#8
  | .req k => some (BitVec.ofNat 8 (0x70 + reqKindNumber k))
  | .done k => some (BitVec.ofNat 8 (0x80 + latchKindNumber k))
  | .status => some 0x90#8
  | .unknownCommand b _ => some b
  | .reset | .resetRelease | .loadingComplete _ | .frameArrival _ _ | .mediumBusy | .mediumIdle
  | .quietGapReached | .backoffSlotEnd | .sendDone | .turnaroundExpiry | .blockBoundary _ _
  | .audioReadyFall | .audioReadyRise | .reportSent | .joinWindowExpiry | .hailTimerExpiry
  | .presenceTimerExpiry | .presencePromotion | .peerLossExpiry _ | .lostRemovalExpiry _
  | .hailedExpiry _ | .departedHoldExpiry _ | .settleExpiry | .requestTimeout _
  | .floorGrantExpiry | .floorViewExpiry => none

end Sys2Proof
end

