-- ==== Sys2Proof/Machine/Commands.lean ====
section
/-! DEFINITION. The control line's commands other than JOIN (chapter 9, R169 to R173), with the timers
they start (chapters 7 and 8), and REPORT_SENT. -/

namespace Sys2Proof.Machine

/-- A command byte is acted on while the loader is RUNNING and discarded otherwise (R169, R170). -/
def State.onCommand (s : State) (f : State → State) : Host.Outcome State Fault Refusal :=
  .next (if s.running then f s else s)

/-! ## LEAVE -/

/-- The Roster Unit's part of LEAVE (R41): a LEAVE is due, the window closes, the departed list and
the peer table are emptied. -/
def State.leaveRoster (s : State) : State :=
  { s with ru := { s.ru with peers := [], departed := [], window := none },
           sa := { s.sa with leaveDue := true } }

/-- The Send Assembler's part of LEAVE (R75): the queue is emptied uncounted, the hail timer stops. -/
def State.leaveSend (s : State) : State :=
  State.hailClose { s with sa := { s.sa with queue := [] } }

/-- LEAVE (R41, R55, R75, R101, R140, R165). -/
def execLeave (s : State) : Host.Outcome State Fault Refusal :=
  s.onCommand (fun s =>
    s.leaveRoster.leaveSend.flushDownlink.evaluateRole.evaluateBridge.leaveRequests.linkReact)

/-! ## Mute -/

/-- MUTE_ON (R46). -/
def execMuteOn (s : State) : Host.Outcome State Fault Refusal :=
  s.onCommand (fun s => { s with wl := { s.wl with ownMute := true } })

/-- MUTE_OFF (R46). -/
def execMuteOff (s : State) : Host.Outcome State Fault Refusal :=
  s.onCommand (fun s => { s with wl := { s.wl with ownMute := false } })

/-! ## The call -/

/-- CALL_ON (R128): the call flag is set; from OFF, when not isolated, the Bridge Unit claims. -/
def execCallOn (s : State) : Host.Outcome State Fault Refusal :=
  s.onCommand (fun s =>
    let s1 := { s with bu := { s.bu with callFlag := true } }
    (if s1.bu.state = .off ∧ s1.isolated = false then s1.enterClaiming else s1).evaluateFollowed)

/-- CALL_OFF (R129): the call flag is cleared and the Bridge Unit enters OFF. -/
def execCallOff (s : State) : Host.Outcome State Fault Refusal :=
  s.onCommand (fun s =>
    State.linkReact (State.evaluateFollowed
      (State.enterOff { s with bu := { s.bu with callFlag := false } })))

/-- SETTLE_EXPIRY (R132): in CLAIMING, ACTIVE when no lower claimer exists, else YIELDED. -/
def execSettleExpiry (s : State) : Host.Outcome State Fault Refusal :=
  match s.bu.state, s.bu.settle with
  | .claiming, some t =>
    let s1 := s.catchUp t
    .next (if s1.lowerClaimer then s1.enterYielded else s1.enterActive).evaluateFollowed.linkReact
  | _, _ => .next s

/-! ## Requests -/

/-- A request of this station's own at a bridge that is not ACTIVE: the toggle flips and the slot
becomes PENDING, or BUSY is recorded (R146). -/
def State.requestAfar (s : State) (k : ReqKind) : State :=
  let sl := s.cq.slots.get k
  if sl.pending then s.record k .busy
  else s.setSlot k { toggle := !sl.toggle, timer := some (s.now + requestTime), late := false }

/-- The bridge's own request is acted on at once (R146). -/
def State.requestHere (s : State) (k : ReqKind) : State :=
  let sl := s.cq.slots.get k
  ((s.setSlot k { sl with late := false }).record k .accepted).act k s.own

/-- REQ (R146). -/
def execReq (k : ReqKind) (s : State) : Host.Outcome State Fault Refusal :=
  s.onCommand (fun s =>
    (if s.bu.state = .active then s.requestHere k else s.requestAfar k).linkReact)

/-- DONE (R157): the latch of the kind is cleared. -/
def execDone (k : LatchKind) (s : State) : Host.Outcome State Fault Refusal :=
  s.onCommand (fun s => { s with cq := { s.cq with latches := s.cq.latches.set k false } })

/-- REQUEST_TIMEOUT (R149): a PENDING slot becomes IDLE with its late mark set, and TIMEOUT is
recorded. -/
def execRequestTimeout (k : ReqKind) (s : State) : Host.Outcome State Fault Refusal :=
  let sl := s.cq.slots.get k
  match sl.timer with
  | some t =>
    .next (((s.catchUp t).setSlot k { sl with timer := none, late := true }).record k .timeout)
  | none => .next s

/-- FLOOR_GRANT_EXPIRY (R161): the grant ends. -/
def execFloorGrantExpiry (s : State) : Host.Outcome State Fault Refusal :=
  match s.cq.grant with
  | some t => .next (s.catchUp t).endGrant
  | none => .next s

/-- FLOOR_VIEW_EXPIRY (R167): the view is cleared. -/
def execFloorViewExpiry (s : State) : Host.Outcome State Fault Refusal :=
  match s.cq.view with
  | some v =>
    let s1 := s.catchUp v.timer
    .next { s1 with cq := { s1.cq with view := none } }
  | none => .next s

/-! ## Reports -/

/-- STATUS (R170, R172, R173): forms a pair while RUNNING or HALTED, unless one is on its way. -/
def execStatus (s : State) : Host.Outcome State Fault Refusal :=
  match s.sl.state with
  | .loading => .next s
  | .running => .next (if s.pairOnItsWay then s else s.formPair)
  | .halted => .next (if s.pairOnItsWay then s else s.formPair)

/-- UNKNOWN_COMMAND (R171): counted while RUNNING, discarded otherwise (R170). A byte that, with its
stop bit found, names a command is no UNKNOWN_COMMAND (assumption 10). -/
def execUnknownCommand (b : Byte) (stopBit : Bool) (s : State) :
    Host.Outcome State Fault Refusal :=
  if stopBit && (commandOfByte b).isSome then .refused (.namesACommand b)
  else s.onCommand (fun s =>
    { s with cl := { s.cl with unknownCommands := countUp s.cl.unknownCommands 1 } })

/-- REPORT_SENT (R172): the report being sent is done and the next in the queue starts. -/
def execReportSent (s : State) : Host.Outcome State Fault Refusal :=
  match s.cl.sending with
  | some _ =>
    .next { s with cl := { s.cl with
      sending := s.cl.waiting.head?, waiting := s.cl.waiting.drop 1 } }
  | none => .next s

end Sys2Proof.Machine
end

