-- ==== Sys2Proof/Machine/Roster.lean ====
section
/-! DEFINITION. The Roster Unit (chapter 2) and the receive filter before it (chapter 1): arrivals,
pairing, introduction, liveness, leaving. -/

namespace Sys2Proof.Machine

/-! ## Entries (R20, R22, R28) -/

/-- The heard list of a HAIL, else the list held (R22 step 5). -/
def bodyHeard (b : Body) (old : List Nat) : List Nat :=
  match b with
  | .hail _ l => l
  | .talk _ _ => old
  | .presence _ => old
  | .leave => old

/-- The roster list of a PRESENCE, else the list held (R22 step 5). -/
def bodyRoster (b : Body) (old : List Nat) : List Nat :=
  match b with
  | .presence l => l
  | .talk _ _ => old
  | .hail _ _ => old
  | .leave => old

/-- Hailed-me as a frame leaves it: a HAIL sets it from its heard list (R20, R22 step 5). -/
def bodyHailedMe (own : Nat) (b : Body) (old : Bool) : Bool :=
  match b with
  | .hail _ l => decide (own ∈ l)
  | .talk _ _ => old
  | .presence _ => old
  | .leave => old

/-- The refresh steps 3 to 5 of R22: header fields, last heard, body. -/
def Peer.takeFrame (p : Peer) (own : Nat) (now : Nat) (f : Frame) : Peer :=
  { p with lastSeq := f.header.seq, header := f.header.sender, wearer := f.header.wearer,
           lastHeard := now, roster := bodyRoster f.body p.roster,
           heard := bodyHeard f.body p.heard,
           hailedMe := bodyHailedMe own f.body p.hailedMe }

/-- A new entry from the frame that creates it, in a state and with or without its hail mark (R20). -/
def newPeer (own : Nat) (now : Nat) (f : Frame) (st : PeerState) (mark : Bool) : Peer where
  station := f.header.station
  wearer := f.header.wearer
  state := st
  lastHeard := now
  lostAt := none
  lastSeq := f.header.seq
  header := f.header.sender
  roster := bodyRoster f.body []
  heard := bodyHeard f.body []
  hailedMe := bodyHailedMe own f.body false
  hailMark := mark
  lastSeen := none
  frames := 1
  missed := 0
  queue := none

/-- The frames count rises by 1. -/
def Peer.countFrame (p : Peer) : Peer := { p with frames := countUp p.frames 1 }

/-- The missed frames that a gap counts: none for a gap of 255 (R22 step 1). -/
def missedOf (gap : Nat) : Nat := if gap = 255 then 0 else gap

/-- The whole refresh of R22: counts (the gap only when the entry was ADMITTED), LOST to ADMITTED,
then the frame's values. -/
def Peer.refresh (p : Peer) (own : Nat) (now : Nat) (f : Frame) : Peer :=
  let gap := missedOf (frameGap p.lastSeq f.header.seq)
  let missed := if p.state = .admitted then countUp p.missed gap else p.missed
  Peer.takeFrame { p.countFrame with missed := missed, state := .admitted, lostAt := none } own now f

/-! ## Notices and hand-on (R23, R32, R33, R38) -/

/-- A mate's notice or header leads to an evaluation of the role (R48). -/
def State.mateEvent (s : State) (isMate : Bool) : State := if isMate then s.evaluateRole else s

/-- The Wearer Logic and the Bridge Unit, then the Call Request Unit, take a header handed on (R23,
parts 2 to 4). `wasMate` says that the entry was a mate until this frame (R48). -/
def State.handHeader (s : State) (f : Frame) (wasMate : Bool) : State :=
  let n := f.header.station
  let s1 := s.mateEvent (wasMate || f.header.wearer = s.cfg.wearer)
  let s2 := s1.evaluateBridge
  s2.requestHeader n f.header.sender f.extras

/-- The sections of a TALK are handed on (R23, parts 5 and 6). -/
def State.handSections (s : State) (f : Frame) : State :=
  match f.body with
  | .talk v c => (s.placeVoice f.header.station v).placeCall f.header.station c
  | .presence _ => s
  | .hail _ _ => s
  | .leave => s

/-- Admission of an entry that stands ADMITTED in the table (R32, R33): PEER_JOINED, an empty voice
queue, a prompt PRESENCE, at an ACTIVE bridge the baseline; then the header is handed on. -/
def State.admission (s : State) (f : Frame) : State :=
  let n := f.header.station
  let s1 := (s.setFlag .peerJoined).mapPeer n
    (fun p => { p with queue := some (RxQueue.cleared QueueCounts.zero) })
  let s2 := s1.askPresence
  let s3 := if s2.bu.state = .active then s2.baseline n f.header.sender else s2
  s3.handHeader f false

/-- The loss or removal notice of a peer at the other blocks (R38): Wearer Logic for a mate, Bridge
Unit, Call Request Unit. The Receive Queues' part goes with the entry. -/
def State.notice (s : State) (n : Nat) (isMate : Bool) : State :=
  ((s.mateEvent isMate).evaluateBridge).floorNotice n

/-- An entry is removed (R38): with the removal notice when it was ADMITTED or LOST. -/
def State.removePeer (s : State) (p : Peer) : State :=
  let s1 := { s with ru := { s.ru with peers := erasePeer p.station s.ru.peers } }
  if p.seen then s1.notice p.station (s.isMate p) else s1

/-! ## Paths of an arrival (R21) -/

/-- A new entry stands in the table. -/
def State.addPeer (s : State) (p : Peer) : State :=
  { s with ru := { s.ru with peers := insertPeer p s.ru.peers } }

/-- The table is full (R34). -/
def State.tableFull (s : State) : State :=
  State.setFlag { s with ru := { s.ru with rosterFull := countUp s.ru.rosterFull 1 } } .rosterFull

/-- The table holds 9 entries. -/
def State.isFull (s : State) : Bool := decide (peerLimit ≤ s.ru.peers.length)

/-- A station leaves the departed list (R29, R40). -/
def State.undepart (s : State) (n : Nat) : State :=
  { s with ru := { s.ru with departed := s.ru.departed.filter (fun d => d.station ≠ n) } }

/-- A station is placed on the departed list as newest, with a hold of 10 s; a fifth drops the
oldest (R40). -/
def State.depart (s : State) (n : Nat) : State :=
  let others := s.ru.departed.filter (fun d => d.station ≠ n)
  let room := if departedLimit ≤ others.length then others.drop 1 else others
  { s with ru := { s.ru with departed := room ++ [⟨n, s.now + departedHold⟩] } }

/-- Some ADMITTED peer's roster list vouches for a station that is not on the departed list (R30,
R31). -/
def State.introduced (s : State) (n : Nat) : Bool :=
  s.ru.peers.any (fun p => p.state = .admitted && decide (n ∈ p.roster)) &&
    !s.ru.departed.any (fun d => d.station = n)

/-- Introduction of a sender with a HAILED entry (R30). `counted` says that R28 has counted this
frame already. -/
def State.introduceHailed (s : State) (f : Frame) (counted : Bool) : State :=
  let n := f.header.station
  if s.introduced n then
    (s.mapPeer n (fun p =>
      let p1 := if counted then p else p.countFrame
      { (p1.takeFrame s.own s.now f) with state := .admitted })).admission f
  else s

/-- Introduction of a sender without an entry (R30, R34). -/
def State.introduceNew (s : State) (f : Frame) : State :=
  if s.introduced f.header.station then
    if s.isFull then s.tableFull
    else (s.addPeer (newPeer s.own s.now f .admitted false)).admission f
  else s

/-- Direct pairing with a sender without an entry (R28, R29, R34). -/
def State.pairNew (s : State) (f : Frame) (heard : List Nat) : State :=
  if s.isFull then s.tableFull
  else
    let s1 := s.undepart f.header.station
    if s.own ∈ heard then (s1.addPeer (newPeer s.own s.now f .admitted true)).admission f
    else (s1.addPeer (newPeer s.own s.now f .hailed true)).introduceHailed f true

/-- Direct pairing with a sender whose entry is HAILED (R28, R29). -/
def State.pairHailed (s : State) (f : Frame) (heard : List Nat) : State :=
  let n := f.header.station
  let s1 := (s.undepart n).mapPeer n (fun p =>
    { (p.countFrame.takeFrame s.own s.now f) with hailMark := true })
  if s.own ∈ heard then (s1.mapPeer n (fun p => { p with state := .admitted })).admission f
  else s1.introduceHailed f true

/-- A frame from an ADMITTED or LOST peer: refresh (R22), the hail mark of a HAIL while the window is
open (R28), then hand-on (R23). -/
def State.refreshPeer (s : State) (f : Frame) (p : Peer) : State :=
  let n := f.header.station
  let isHail := f.header.kind = .hail
  let s1 := s.mapPeer n (fun p =>
    let p1 := p.refresh s.own s.now f
    { p1 with hailMark := p1.hailMark || (isHail && s.ru.window.isSome) })
  (s1.handHeader f (s.isMate p)).handSections f

/-- A LEAVE frame (R39): the sender's entry is removed, with PEER_LEFT when it was ADMITTED or LOST,
and the sender is placed on the departed list. -/
def State.leaveFrame (s : State) (n : Nat) : State :=
  let s1 := match s.peer n with
    | some p => (s.removePeer p).setFlagIf p.seen .peerLeft
    | none => s
  s1.depart n

/-- A HAIL carries the station's own admission code, and so do all other frames as far as R21's step
2 is concerned. -/
def State.codeMatches (s : State) (b : Body) : Bool :=
  match b with
  | .hail code _ => code = s.cfg.code
  | .talk _ _ => true
  | .presence _ => true
  | .leave => true

/-- The Roster Unit takes an arrival and sorts it by R21's five steps. -/
def State.takeArrival (s : State) (f : Frame) : State :=
  let n := f.header.station
  if f.header.kind = .leave then s.leaveFrame n
  else if !s.codeMatches f.body then
    { s with ru := { s.ru with codeMismatch := countUp s.ru.codeMismatch 1 } }
  else
    match s.peer n, f.body with
    | none, .hail _ heard =>
      if s.ru.window.isSome then s.pairNew f heard else s.introduceNew f
    | none, _ => s.introduceNew f
    | some p, body =>
      if p.seen then s.refreshPeer f p
      else match body with
        | .hail _ heard =>
          if s.ru.window.isSome then s.pairHailed f heard else s.introduceHailed f false
        | _ => s.introduceHailed f false

/-! ## The receive filter (R1, R2) -/

/-- A check failure is counted (R2, R12). -/
def State.countCheck (s : State) : State :=
  { s with lp := { s.lp with checkFailures := countUp s.lp.checkFailures 1 } }

/-- The four tests of R2 in order; a frame that passes is handed to the Roster Unit (R4). -/
def State.filterFrame (s : State) (bytes : List Byte) (good : Bool) : State :=
  if good then
    match parseFrame bytes with
    | none => s.countCheck
    | some f =>
      if f.header.group ≠ s.cfg.group then
        { s with lp := { s.lp with foreignFrames := countUp s.lp.foreignFrames 1 } }
      else if f.header.station = s.own then
        State.setFlag { s with lp := { s.lp with numberClashes := countUp s.lp.numberClashes 1 } }
          .numberClash
      else s.takeArrival f
  else s.countCheck

/-! ## The commands -/

/-- FRAME_ARRIVAL (R1): taken while RUNNING in IDLE or DEFER, discarded otherwise. -/
def execFrameArrival (bytes : List Byte) (good : Bool) (s : State) :
    Host.Outcome State Fault Refusal :=
  .next (if s.linkListens then (s.filterFrame bytes good).linkReact else s)

/-- The join window's timer starts at *J* seconds (R25). -/
def State.startWindow (s : State) : State :=
  { s with ru := { s.ru with window := some (s.now + seconds s.cfg.joinTime) } }

/-- An entry with its hail mark cleared. -/
def Peer.clearMark (p : Peer) : Peer := { p with hailMark := false }

/-- A window that opens empties the departed list and clears every hail mark (R25). -/
def State.freshWindow (s : State) : State :=
  { s with ru := { s.ru with departed := [], peers := s.ru.peers.map Peer.clearMark } }

/-- The join window closes (R26). -/
def State.closeWindow (s : State) : State :=
  State.hailClose { s with ru := { s.ru with window := none } }

/-- JOIN (R25): opens the window, emptying the departed list and clearing the hail marks, or
restarts its timer. The HAIL that becomes due may be asked for, and handed over, within the JOIN itself
(R6, R8); a LEAVE taken next then follows that HAIL (the model's choice beside R169, assumption 21). -/
def execJoin (s : State) : Host.Outcome State Fault Refusal :=
  if s.running then
    .next (if s.ru.window.isSome then s.startWindow
      else s.startWindow.freshWindow.hailOpen.linkReact)
  else .next s

/-- JOIN_WINDOW_EXPIRY (R26): the window closes. -/
def execJoinWindowExpiry (s : State) : Host.Outcome State Fault Refusal :=
  match s.ru.window with
  | some t =>
    .next (s.catchUp t).closeWindow.linkReact
  | none => .next s

/-- PEER_LOSS_EXPIRY (R35): an ADMITTED entry silent for 300 ms becomes LOST; PEER_LOST is set and
the loss notice given. -/
def execPeerLossExpiry (n : Nat) (s : State) : Host.Outcome State Fault Refusal :=
  match s.peer n with
  | some p =>
    if p.state = .admitted then
      let s1 := s.catchUp (p.lastHeard + lossTime)
      let s2 := s1.mapPeer n (fun p => { p with state := .lost, lostAt := some s1.now })
      .next ((s2.setFlag .peerLost).notice n (s.isMate p))
    else .next s
  | none => .next s

/-- LOST_REMOVAL_EXPIRY (R36): an entry LOST for 5 s is removed. -/
def execLostRemovalExpiry (n : Nat) (s : State) : Host.Outcome State Fault Refusal :=
  match s.peer n with
  | some p =>
    match p.state, p.lostAt with
    | .lost, some t => .next ((s.catchUp (t + lostTime)).removePeer p)
    | _, _ => .next s
  | none => .next s

/-- HAILED_EXPIRY (R37): a HAILED entry is removed 1 s after its last hail. -/
def execHailedExpiry (n : Nat) (s : State) : Host.Outcome State Fault Refusal :=
  match s.peer n with
  | some p =>
    if p.state = .hailed then .next ((s.catchUp (p.lastHeard + hailedTime)).removePeer p)
    else .next s
  | none => .next s

/-- DEPARTED_HOLD_EXPIRY (R40): a departed station's hold ends and it leaves the list. -/
def execDepartedHoldExpiry (n : Nat) (s : State) : Host.Outcome State Fault Refusal :=
  match s.ru.departed.find? (fun d => d.station = n) with
  | some d => .next ((s.catchUp d.timer).undepart n)
  | none => .next s

end Sys2Proof.Machine
end

