-- ==== Sys2Proof/Machine/Startup.lean ====
section
/-! DEFINITION. RESET_N and the Start-up Loader (section 9.4). -/

namespace Sys2Proof.Machine

/-- The state while RESET is held (R180): every block at its RESET value. The input levels stay what
the ports drive, so the role is STANDBY when AUDIO_READY is low (R56); the queue of commands and the
index of the next free draw are no part of the device and stay (assumptions 3, 16). -/
def State.heldReset (s : State) : State :=
  { State.reset with
    ports := { State.reset.ports with
      audioReady := s.ports.audioReady, mediumBusy := s.ports.mediumBusy }
    lp := { LinkPort.reset with draws := s.lp.draws }
    wl := { WearerLogic.reset with role := if s.isolated then .standby else .lead }
    pending := s.pending }

/-- RESET (R180): RESET_N is low, and every block is held at its RESET value. -/
def execReset (s : State) : Host.Outcome State Fault Refusal := .next s.heldReset

/-- RESET_RELEASE (R180): the rising edge of RESET_N starts one read of the image. -/
def execResetRelease (s : State) : Host.Outcome State Fault Refusal :=
  .next (if s.ports.resetHeld then
    { s with ports := { s.ports with resetHeld := false }, sl := { s.sl with reading := true } }
  else s)

/-- The image fails a check: HALTED with the fault code, and CONFIG_FAULT (R183). -/
def State.halt (s : State) (f : FaultCode) : State :=
  State.setFlag { s with sl := { s.sl with state := .halted, reading := false, fault := f } }
    .configFault

/-- The settings are handed out and the loader enters RUNNING (R181, R184): the mask is taken, the
idle mark set when the medium is idle (R5), and a scheduled PRESENCE becomes due (R75). -/
def State.startRunning (s : State) (img : Image) : State :=
  let s1 : State :=
    { s with
      sl := { state := .running, reading := false, settings := imageSettings img,
              fault := if imageClamped img then .clamped else .noFault }
      cl := { s.cl with mask := imageMask img }
      lp := { s.lp with idleMark := if s.ports.mediumBusy then s.lp.idleMark else some s.now }
      sa := { s.sa with scheduledDue := true, promotionTimer := some (s.now + presenceInterval) } }
  s1.setFlagIf (imageClamped img) .configFault

/-- LOADING_COMPLETE (R181): the 72nd byte of the read in progress has been taken. -/
def execLoadingComplete (img : Image) (s : State) : Host.Outcome State Fault Refusal :=
  .next (if s.sl.state = .loading ∧ s.sl.reading = true then
    match imageFault img with
    | some f => s.halt f
    | none => (s.startRunning img).linkReact
  else s)

end Sys2Proof.Machine
end

