-- ==== Sys2Proof/Machine/Dispatch.lean ====
section
/-! DEFINITION. What each command does to everything but the queue: one arm per row of
spec/opcode_table.json. -/

namespace Sys2Proof.Machine

def exec (i : Instr) (s : State) : Host.Outcome State Fault Refusal :=
  match i with
  | .reset => Sys2Proof.Machine.execReset s
  | .resetRelease => Sys2Proof.Machine.execResetRelease s
  | .loadingComplete image => Sys2Proof.Machine.execLoadingComplete image s
  | .frameArrival bytes good => Sys2Proof.Machine.execFrameArrival bytes good s
  | .mediumBusy => Sys2Proof.Machine.execMediumBusy s
  | .mediumIdle => Sys2Proof.Machine.execMediumIdle s
  | .quietGapReached => Sys2Proof.Machine.execQuietGapReached s
  | .backoffSlotEnd => Sys2Proof.Machine.execBackoffSlotEnd s
  | .sendDone => Sys2Proof.Machine.execSendDone s
  | .turnaroundExpiry => Sys2Proof.Machine.execTurnaroundExpiry s
  | .blockBoundary mic call => Sys2Proof.Machine.execBlockBoundary mic call s
  | .audioReadyFall => Sys2Proof.Machine.execAudioReadyFall s
  | .audioReadyRise => Sys2Proof.Machine.execAudioReadyRise s
  | .join => Sys2Proof.Machine.execJoin s
  | .leave => Sys2Proof.Machine.execLeave s
  | .muteOn => Sys2Proof.Machine.execMuteOn s
  | .muteOff => Sys2Proof.Machine.execMuteOff s
  | .callOn => Sys2Proof.Machine.execCallOn s
  | .callOff => Sys2Proof.Machine.execCallOff s
  | .req kind => Sys2Proof.Machine.execReq kind s
  | .done kind => Sys2Proof.Machine.execDone kind s
  | .status => Sys2Proof.Machine.execStatus s
  | .unknownCommand byte stopBit => Sys2Proof.Machine.execUnknownCommand byte stopBit s
  | .reportSent => Sys2Proof.Machine.execReportSent s
  | .joinWindowExpiry => Sys2Proof.Machine.execJoinWindowExpiry s
  | .hailTimerExpiry => Sys2Proof.Machine.execHailTimerExpiry s
  | .presenceTimerExpiry => Sys2Proof.Machine.execPresenceTimerExpiry s
  | .presencePromotion => Sys2Proof.Machine.execPresencePromotion s
  | .peerLossExpiry station => Sys2Proof.Machine.execPeerLossExpiry station s
  | .lostRemovalExpiry station => Sys2Proof.Machine.execLostRemovalExpiry station s
  | .hailedExpiry station => Sys2Proof.Machine.execHailedExpiry station s
  | .departedHoldExpiry station => Sys2Proof.Machine.execDepartedHoldExpiry station s
  | .settleExpiry => Sys2Proof.Machine.execSettleExpiry s
  | .requestTimeout kind => Sys2Proof.Machine.execRequestTimeout kind s
  | .floorGrantExpiry => Sys2Proof.Machine.execFloorGrantExpiry s
  | .floorViewExpiry => Sys2Proof.Machine.execFloorViewExpiry s

end Sys2Proof.Machine
end

