-- ==== Sys2Proof/Machine/Step.lean ====
section
/-! DEFINITION. One step: the command at the front of the queue is taken whole. -/

namespace Sys2Proof.Machine

/-- On an empty queue the timer base, which runs while the part is out of reset, advances by one
reading of 10 µs (Conventions, Time; assumption 1). -/
def State.tick (s : State) : State := if s.ports.resetHeld then s else { s with now := s.now + 1 }

/-- One step: the front command's effect on the state with the queue's rest; with nothing waiting,
time passes. -/
def step (s : State) : Host.Outcome State Fault Refusal :=
  match s.pending with
  | [] => .next s.tick
  | c :: rest => exec c { s with pending := rest }

/-- The state with the command that a word spells at the front of its queue; no word spells one
(assumption 17). -/
def State.withFetchWord (s : State) (nbits w : Nat) : State :=
  match decodeTableWord nbits w with
  | some c => { s with pending := c :: s.pending }
  | none => s

end Sys2Proof.Machine
end

