-- ==== Sys2Proof/WellFormed.lean ====
section
/-! DEFINITION. Which commands the ports can deliver. Blocks of 32 samples and images of 72 bytes
are so by their types; the checks here are on the other operands. -/

namespace Sys2Proof

/-- A station number (Conventions): 1 to 254. -/
abbrev stationNumber (n : Nat) : Prop := 1 ≤ n ∧ n ≤ 254

/-- The operands of a command are ones its port can deliver: the radio carries frames of up to 600
bytes (section 1.1); a timer of a peer or of a departed station names a station; a byte of
UNKNOWN_COMMAND names no command or lacks its stop bit (R171). -/
def Instr.wellFormed : Instr → Bool
  | .frameArrival bytes _ => decide (bytes.length ≤ 600)
  | .peerLossExpiry n | .lostRemovalExpiry n | .hailedExpiry n | .departedHoldExpiry n =>
      decide (stationNumber n)
  | .unknownCommand b stopBit => !stopBit || decide (commandOfByte b = none)
  | .reset | .resetRelease | .loadingComplete _ | .mediumBusy | .mediumIdle | .quietGapReached
  | .backoffSlotEnd | .sendDone | .turnaroundExpiry | .blockBoundary _ _ | .audioReadyFall
  | .audioReadyRise | .join | .leave | .muteOn | .muteOff | .callOn | .callOff | .req _ | .done _
  | .status | .reportSent | .joinWindowExpiry | .hailTimerExpiry | .presenceTimerExpiry
  | .presencePromotion | .settleExpiry | .requestTimeout _ | .floorGrantExpiry
  | .floorViewExpiry => true

/-- `Instr.wellFormed` as a proposition. -/
abbrev Instr.WellFormed (i : Instr) : Prop := i.wellFormed = true

end Sys2Proof
end

