-- ==== Sys2Proof/Safety.lean ====
section
/-! DEFINITION. What a well-formed frame is (R3) and what every state of the machine keeps: the
bounds and agreements that the rules state for each block. -/

namespace Sys2Proof.Machine

/-! ## Well-formed frames (R3) -/

/-- A list of stations on the air: at most 9, each a station number, strictly ascending (R3). -/
abbrev stationsWellFormed (l : List Nat) : Prop :=
  l.length ≤ 9 ∧ (∀ n ∈ l, stationNumber n) ∧ l.Pairwise (· < ·)

/-- The bridge extras have R3's ranges. -/
abbrev Extras.WellFormed (x : Extras) : Prop :=
  x.holder ≤ 254 ∧ x.holderWearer ≤ 15 ∧ x.remaining ≤ 300 ∧
    stationsWellFormed (x.echoes.map (·.station))

/-- A section of at most `limit` blocks, each with a level of at most 32768 (R3). -/
abbrev TalkSection.WellFormed (limit : Nat) (t : TalkSection) : Prop :=
  t.blocks.length ≤ limit ∧ ∀ b ∈ t.blocks, b.level ≤ 32768

/-- The header has R3's ranges: station, wearer, and not CLAIM with ACTIVE; the mic score is a byte. -/
abbrev Header.WellFormed (h : Header) : Prop :=
  stationNumber h.station ∧ (1 ≤ h.wearer ∧ h.wearer ≤ 15) ∧ h.sender.micScore ≤ 255 ∧
    ¬(h.sender.flags.claim = true ∧ h.sender.flags.active = true)

/-- The body is the one of a kind, with R3's ranges; `active` is the header's ACTIVE. -/
def Body.WellFormed (kind : FrameKind) (active : Bool) : Body → Prop
  | .talk v c => kind = .talk ∧ v.WellFormed 4 ∧ c.WellFormed (if active then 4 else 0)
  | .presence l => kind = .presence ∧ stationsWellFormed l
  | .hail _ l => kind = .hail ∧ stationsWellFormed l
  | .leave => kind = .leave

/-- The frame is well-formed (R3), with extras exactly where R14 puts them. -/
def Frame.WellFormed (f : Frame) : Prop :=
  f.header.WellFormed ∧ (f.extras.isSome = f.header.hasExtras) ∧
    (∀ x, f.extras = some x → x.WellFormed) ∧
    f.body.WellFormed f.header.kind f.header.sender.flags.active

/-- The length in bytes that a frame's kind, extras and counts imply (tables of section 1.5). -/
def Frame.length (f : Frame) : Nat :=
  9 + (match f.extras with
    | some x => 5 + 2 * x.echoes.length
    | none => 0) +
  (match f.body with
    | .talk v c => (3 + 67 * v.blocks.length) + (3 + 67 * c.blocks.length)
    | .presence l => 1 + l.length
    | .hail _ l => 5 + l.length
    | .leave => 0)

/-! ## Settings (R184) -/

/-- Every setting lies in its range of R183 and R184. -/
abbrev Settings.InRange (c : Settings) : Prop :=
  stationNumber c.station ∧ (1 ≤ c.wearer ∧ c.wearer ≤ 15) ∧ (c.group ≠ 0#16 ∧ c.group ≠ 0xFFFF#16) ∧
  (10 ≤ c.joinTime ∧ c.joinTime ≤ 60) ∧ c.margin ≤ 3 ∧ (1 ≤ c.depth ∧ c.depth ≤ 8) ∧
  (2 ≤ c.grantTime ∧ c.grantTime ≤ 30) ∧ c.guard ≤ 15 ∧ c.packWait ≤ 8 ∧
  (1 ≤ c.packCount ∧ c.packCount ≤ 4) ∧ (10 ≤ c.hangover ∧ c.hangover ≤ 100) ∧
  c.quietThreshold ≤ 4080 ∧ c.callThreshold ≤ 4080 ∧ c.callTarget ≤ 1024 ∧
  c.floorTarget ≤ 1024 ∧ c.duckHold ≤ 250 ∧ (1 ≤ c.attack ∧ c.attack ≤ 1024) ∧
  (1 ≤ c.release ∧ c.release ≤ 1024) ∧ (1 ≤ c.limiterRelease ∧ c.limiterRelease ≤ 4096) ∧
  c.sidetone ≤ 4095 ∧ c.downlinkGain ≤ 4095 ∧ c.wearerMap.length = 15 ∧
  ∀ e ∈ c.wearerMap, e.ear ≤ 4095 ∧ e.up ≤ 4095

/-- While the loader is RUNNING its settings are in range. -/
abbrev State.SettingsOk (s : State) : Prop := s.running → s.cfg.InRange

/-! ## Before RUNNING -/

/-- While the loader is LOADING or HALTED every block but the loader and the Control Line holds its
RESET value (R13, R42, R62, R75, R102, R127, R141, R166, R174), own mute is off, no step-down is
pending, and while RESET is held no read is in progress (R180). The draw index is the model's. -/
abbrev State.AtRest (s : State) : Prop :=
  (¬s.running →
    s.lp = { LinkPort.reset with draws := s.lp.draws } ∧ s.sa = SendAssembler.reset ∧
    s.cu = CaptureUnit.reset ∧ s.ru = RosterUnit.reset ∧ s.rq = Downlink.reset ∧
    s.me = MixEngine.reset ∧ s.bu = BridgeUnit.reset ∧ s.cq = CallRequest.reset ∧
    s.wl.stepDown = false ∧ s.wl.ownMute = false) ∧
  (s.ports.resetHeld = true → s.sl.state = .loading ∧ s.sl.reading = false)

/-! ## The Roster Unit (R19, R20, R40) -/

/-- What one peer entry keeps beside its queue: its numbers are ones a frame can carry, it has a
voice queue exactly while it is ADMITTED or LOST, and the moment of loss exactly while LOST. -/
abbrev Peer.Ok (own : Nat) (p : Peer) : Prop :=
  stationNumber p.station ∧ p.station ≠ own ∧ (1 ≤ p.wearer ∧ p.wearer ≤ 15) ∧
  p.queue.isSome = p.seen ∧ p.lostAt.isSome = decide (p.state = .lost) ∧
  p.header.micScore ≤ 255 ∧ (1 ≤ p.frames ∧ p.frames ≤ 65535) ∧ p.missed ≤ 65535

/-- The peer table holds at most 9 entries by strictly ascending station number, never the own
number (R19); the departed list holds at most 4 stations, no two alike, none with an entry (R29,
R30, R40). -/
abbrev State.RosterOk (s : State) : Prop :=
  s.ru.peers.length ≤ 9 ∧ s.ru.peers.Pairwise (fun p q => p.station < q.station) ∧
  (∀ p ∈ s.ru.peers, p.Ok s.own) ∧
  s.ru.departed.length ≤ 4 ∧ s.ru.departed.Pairwise (fun d e => d.station ≠ e.station) ∧
  (∀ d ∈ s.ru.departed, ∀ p ∈ s.ru.peers, p.station ≠ d.station) ∧
  s.ru.rosterFull ≤ 65535 ∧ s.ru.codeMismatch ≤ 65535

/-! ## The Receive Queues (R76, R77, R97, R103) -/

/-- Counts stop at 65535 (R103). -/
abbrev QueueCounts.Ok (c : QueueCounts) : Prop :=
  c.late ≤ 65535 ∧ c.slides ≤ 65535 ∧ c.resyncs ≤ 65535 ∧ c.concealed ≤ 65535 ∧ c.breaks ≤ 65535

/-- What every receive queue keeps: an IDLE queue is empty with its record at rest; a PRIMING queue
holds an entry; held sequences lie in strictly ascending order within *next* .. *next* + 15 (R76). -/
abbrev RxQueue.Ok (q : RxQueue) : Prop :=
  (q.mode = .idle → q = RxQueue.cleared q.counts) ∧ (q.mode = .priming → q.entries ≠ []) ∧
  (∀ e ∈ q.entries, q.offset e.seq < 16 ∧ e.level ≤ 32768) ∧
  q.entries.Pairwise (fun a b => q.offset a.seq < q.offset b.seq) ∧
  q.primeWait ≤ 8 ∧ q.conceal ≤ 255 ∧ q.counts.Ok

/-- What the slip state keeps (R77, R93, R97). -/
abbrev Downlink.SlipOk (d : Downlink) : Prop :=
  (d.queue.mode ≠ .playing → d.slip = SlipState.cleared) ∧
  d.slip.highRun ≤ 250 ∧ d.slip.lowRun ≤ 250 ∧ d.slip.wait ≤ 64 ∧
  (d.slip.pending = none → d.slip.highRun < 250 ∧ d.slip.lowRun < 250 ∧ d.slip.wait = 0) ∧
  (d.slip.pending ≠ none → 1 ≤ d.slip.wait) ∧ d.slips ≤ 65535

/-- Every queue of the part keeps its bounds. -/
abbrev State.QueuesOk (s : State) : Prop :=
  (∀ p ∈ s.ru.peers, p.queue.all (fun q => decide q.Ok) = true) ∧ s.rq.queue.Ok ∧ s.rq.SlipOk

/-! ## Capture and role (R44, R51, R58, R59) -/

/-- The smoothed level stays in range; the hangover count is 0 outside HANGOVER and from 1 to *H* - 1
inside it. -/
abbrev State.CaptureOk (s : State) : Prop :=
  s.cu.avg ≤ 32768 ∧ (s.cu.spurt = .quiet → s.cu.hangover = 0 ∧ s.cu.spurtSent = false) ∧
  (s.cu.spurt = .talking → s.cu.hangover = 0) ∧
  (s.cu.spurt = .hangover → 1 ≤ s.cu.hangover ∧ s.cu.hangover < s.cfg.hangover)

/-- An isolated station is STANDBY with no step-down (R44); a pending step-down is a lead's, and
waits for a spurt in progress (R50, R51). -/
abbrev State.RoleOk (s : State) : Prop :=
  (s.isolated = true → s.wl.role = .standby ∧ s.wl.stepDown = false) ∧
  (s.wl.stepDown = true → s.wl.role = .lead ∧ s.cu.spurt ≠ .quiet)

/-! ## The Send Assembler (R65 to R70) -/

/-- The send queue holds at most 12 entries, each at most 11 boundaries old, those of one tag in
capture order; CALL entries only while ACTIVE (R65 to R67). -/
abbrev State.SendQueueOk (s : State) : Prop :=
  s.sa.queue.length ≤ 12 ∧
  (∀ e ∈ s.sa.queue, seqAhead e.seq s.cu.captureCount ≤ 11 ∧ e.level ≤ 32768) ∧
  s.sa.queue.Pairwise (fun a b => a.tag = b.tag → 1 ≤ seqAhead a.seq b.seq ∧ seqAhead a.seq b.seq ≤ 11) ∧
  (s.bu.state ≠ .active → ∀ e ∈ s.sa.queue, e.tag = .voice) ∧ s.sa.sendDrops ≤ 65535

/-- While the join window is open either HAIL is due or the hail timer runs, never both, and neither
while it is closed (R70). While RUNNING a PRESENCE is due or the presence timer runs, and a scheduled
one waits for promotion exactly while it is due (R69). -/
abbrev State.DueOk (s : State) : Prop :=
  ((s.sa.hailDue != s.sa.hailTimer.isSome) = s.ru.window.isSome) ∧
  (s.sa.hailDue = true → s.sa.hailTimer = none) ∧
  (s.running →
    s.sa.presenceTimer.isSome = true ∨ s.sa.scheduledDue = true ∨ s.sa.promptDue = true) ∧
  s.sa.promotionTimer.isSome = s.sa.scheduledDue ∧
  (s.sa.scheduledDue = true → s.sa.presenceTimer = none)

/-! ## The Link Port (R5 to R13) -/

/-- CW is one of its four values; a backoff count below CW is held exactly in DEFER; slots run only
in DEFER with count left; the moment of send-done is held exactly in TURNAROUND; the counts stop at
65535 (R12). -/
abbrev State.LinkOk (s : State) : Prop :=
  s.lp.cw ∈ [8, 16, 32, 64] ∧
  s.lp.backoff.isSome = decide (s.lp.access = .defer) ∧
  s.lp.backoff.all (fun n => decide (n < s.lp.cw)) = true ∧
  (s.lp.slotEnd ≠ none → s.lp.access = .defer ∧ s.lp.backoff ≠ some 0) ∧
  s.lp.sendDoneAt.isSome = decide (s.lp.access = .turnaround) ∧
  s.lp.framesSent ≤ 65535 ∧ s.lp.checkFailures ≤ 65535 ∧ s.lp.foreignFrames ≤ 65535 ∧
  s.lp.numberClashes ≤ 65535

/-- The Link Port is in IDLE only with no frame due, and in DEFER only with one (R6, R9, R11). -/
abbrev State.WorkConserving (s : State) : Prop :=
  (s.lp.access = .idle → s.frameDue = false) ∧ (s.lp.access = .defer → s.frameDue = true)

/-! ## The Bridge Unit (R128 to R143) -/

/-- The Bridge Unit is out of OFF exactly while the call flag is set and AUDIO_READY is high; the
settle timer runs exactly in CLAIMING; it is CLAIMING or ACTIVE only with no lower claimer and
YIELDED only with one; the followed bridge is the one R142 gives; the floor view stands only while a
peer is followed (R168). -/
abbrev State.BridgeOk (s : State) : Prop :=
  (s.bu.state ≠ .off ↔ s.bu.callFlag = true ∧ s.ports.audioReady = true) ∧
  s.bu.settle.isSome = decide (s.bu.state = .claiming) ∧
  (s.bu.state = .claiming ∨ s.bu.state = .active → s.lowerClaimer = false) ∧
  (s.bu.state = .yielded → s.lowerClaimer = true) ∧
  s.bu.followed = s.bridgeInView ∧
  (s.cq.view ≠ none → s.bu.followed ≠ none ∧ s.bu.state ≠ .active)

/-! ## The Call Request Unit (R145 to R165) -/

/-- Outside ACTIVE nothing of a bridge term stands: no holder, grant or queue, no latch, no last-seen
toggles (R151, R156, R158, R164). An ACTIVE bridge has no PENDING slot (R146), and a PENDING slot has
its late mark clear. -/
abbrev State.TermOk (s : State) : Prop :=
  (s.bu.state ≠ .active →
    s.cq.holder = none ∧ s.cq.grant = none ∧ s.cq.floorQueue = [] ∧
    s.cq.latches.answer = false ∧ s.cq.latches.hangup = false ∧
    ∀ p ∈ s.ru.peers, p.lastSeen = none) ∧
  (s.bu.state = .active → ∀ k ∈ allKinds, (s.cq.slots.get k).pending = false) ∧
  (∀ k ∈ allKinds, (s.cq.slots.get k).pending = true → (s.cq.slots.get k).late = false) ∧
  s.cq.merges.answer ≤ 65535 ∧ s.cq.merges.hangup ≤ 65535

/-- The stations on the floor: the holder and the queue. -/
def State.onFloor (s : State) : List Nat := s.cq.holder.toList ++ s.cq.floorQueue

/-- The floor holds no station twice and at most 10; its queue is empty with no holder; the grant
runs exactly with a holder and for at most *G* seconds; every station on it is the own one or an
ADMITTED peer (R158 to R162). -/
abbrev State.FloorOk (s : State) : Prop :=
  s.onFloor.Nodup ∧ s.onFloor.length ≤ 10 ∧ (s.cq.holder = none → s.cq.floorQueue = []) ∧
  s.cq.grant.isSome = s.cq.holder.isSome ∧
  s.cq.grant.all (fun t => decide (t ≤ s.now + seconds s.cfg.grantTime)) = true ∧
  ∀ n ∈ s.onFloor, n = s.own ∨ ∃ p ∈ s.ru.peers, p.station = n ∧ p.state = .admitted

/-! ## The Control Line (R171, R172) -/

/-- All the reports are REQUEST reports. -/
def allRequests (l : List ReportKind) : Bool := l.all (fun k => k = .request)

/-- REQUEST reports, and at most one pair among them, its ROSTER right behind its STATUS (R172). -/
def pairAtMostOnce : List ReportKind → Bool
  | [] => true
  | .request :: l => pairAtMostOnce l
  | .status :: .roster :: l => allRequests l
  | .status :: _ => false
  | .roster :: _ => false

/-- The reports from the one being sent on: as `pairAtMostOnce`, or the ROSTER of a pair whose STATUS
has gone out, and REQUEST reports behind it. -/
def reportsLegal : List ReportKind → Bool
  | .roster :: l => allRequests l
  | l => pairAtMostOnce l

/-- The report queue holds at most one pair and four waiting REQUEST reports, and nothing waits while
nothing is sent (R172); the counts stop at 65535. -/
abbrev State.ReportsOk (s : State) : Prop :=
  reportsLegal ((s.cl.sending.toList ++ s.cl.waiting).map (·.kind)) = true ∧
  (s.cl.sending = none → s.cl.waiting = []) ∧ s.requestsWaiting ≤ 4 ∧
  s.cl.unknownCommands ≤ 65535 ∧ s.cl.reportOverflows ≤ 65535

/-! ## The Mix Engine (R112, R115, R121 to R123) -/

/-- A duck factor within 0 .. 1024, a limiter gain within 744 .. 32768, a count of 16 bits. -/
abbrev Bus.Ok (b : Bus) : Prop :=
  b.duck ≤ 1024 ∧ (744 ≤ b.limiter ∧ b.limiter ≤ 32768) ∧ b.overloads ≤ 65535

/-- Both buses and the hold count keep their bounds. -/
abbrev State.MixOk (s : State) : Prop := s.me.ear.Ok ∧ s.me.up.Ok ∧ s.me.hold ≤ 250

/-- Every sample of a block lies within -32767 .. +32767 (R122). -/
abbrev inOutputRange (b : Block) : Prop :=
  b.samples.all (fun x => decide (-32767 ≤ x.toInt ∧ x.toInt ≤ 32767)) = true

/-- What was last handed to the audio port and the call port lies in R122's range. -/
abbrev State.OutputOk (s : State) : Prop :=
  inOutputRange s.ports.earOut ∧ inOutputRange s.ports.callOut

/-! ## Words that several statements share -/

/-- The arrival is taken and its frame `f` passes the receive filter (R1, R2): RUNNING, in IDLE or
DEFER, well-formed, of the own group, from another station. -/
abbrev State.Passes (s : State) (bytes : List Byte) (f : Frame) : Prop :=
  s.running ∧ (s.lp.access = .idle ∨ s.lp.access = .defer) ∧ parseFrame bytes = some f ∧
  f.header.group = s.cfg.group ∧ f.header.station ≠ s.own

/-- Introduction admits station `n` (R30): an ADMITTED entry's roster list names it, and it is not on
the departed list. -/
abbrev State.Vouched (s : State) (n : Nat) : Prop :=
  (∃ p ∈ s.ru.peers, p.state = .admitted ∧ n ∈ p.roster) ∧ ∀ d ∈ s.ru.departed, d.station ≠ n

/-- The frame is no HAIL with a code other than the own one (R21, step 2). -/
def State.OwnCode (s : State) (f : Frame) : Prop :=
  ∀ code heard, f.body = .hail code heard → code = s.cfg.code

/-- An entry without its last-seen toggles, which the Call Request Unit keeps in it (R20). -/
def Peer.unseen (p : Peer) : Peer := { p with lastSeen := none }

/-- A header handed on (R23, parts 2 to 4): the Wearer Logic evaluates the role for a mate or former
mate (R48), the Bridge Unit its state and then the followed bridge (R130), and the Call Request Unit
takes the header at an ACTIVE bridge (R152) and then the extras when the frame has them (R148). -/
abbrev State.headerTaken (s : State) (f : Frame) (mate : Prop) [Decidable mate] : State :=
  let judged := (if mate then s.evaluateRole else s).evaluateState.evaluateFollowed
  let asked := if judged.bu.state = .active then
    judged.bridgeHeader f.header.station f.header.sender else judged
  f.extras.elim asked (asked.takeExtras f.header.station)

/-- A loss or removal notice (R38): the Wearer Logic evaluates the role for a mate (R48), the Bridge
Unit its state and then the followed bridge (R130), and at an ACTIVE bridge the station leaves the
floor (R162). -/
abbrev State.noticeTaken (s : State) (n : Nat) (mate : Prop) [Decidable mate] : State :=
  let judged := (if mate then s.evaluateRole else s).evaluateState.evaluateFollowed
  if judged.bu.state = .active then judged.leaveFloor n else judged

/-- The medium has been idle for the quiet gap (R5). -/
abbrev State.QuietGap (s : State) : Prop :=
  s.ports.mediumBusy = false ∧ ∃ m, s.lp.idleMark = some m ∧ m + 15 ≤ s.now

/-- The image passes the five checks of R183. -/
abbrev imagePasses (img : Image) : Prop :=
  img.byteAt 0 % 16 = 1 ∧
  img.byteAt 70 * 256 + img.byteAt 71 = ((List.range 70).map img.byteAt).sum % 65536 ∧
  (1 ≤ img.byteAt 1 ∧ img.byteAt 1 ≤ 254) ∧ img.byteAt 0 / 16 ≠ 0 ∧
  img.byteAt 2 * 256 + img.byteAt 3 ≠ 0 ∧ img.byteAt 2 * 256 + img.byteAt 3 ≠ 65535

/-! ## All of it -/

/-- What every step keeps. -/
structure State.Inv (s : State) : Prop where
  settings : s.SettingsOk
  atRest : s.AtRest
  roster : s.RosterOk
  queues : s.QueuesOk
  capture : s.CaptureOk
  role : s.RoleOk
  sendQueue : s.SendQueueOk
  due : s.DueOk
  link : s.LinkOk
  work : s.WorkConserving
  bridge : s.BridgeOk
  term : s.TermOk
  floor : s.FloorOk
  reports : s.ReportsOk
  mix : s.MixOk
  output : s.OutputOk

end Sys2Proof.Machine
end

