-- ==== Sys2Proof/Certificates/Slice0/Obligations.lean ====
section
/-! DEFINITION. The statements for the provers: what each command of the JX10 does, what the shared
operations compute, what every frame on the air is, and what every step keeps. `State.linkReact`,
the reaction of the Link Port to the frame-due level that ends a step, is the model's reading of R6,
R9 and R11 (assumption 7) wherever a statement names it. -/

open Sys2Proof Sys2Proof.Machine

/-! ## Steps, RESET and the loader -/

/-- One step takes the command at the front of the queue whole, with the queue's rest behind it; on
an empty queue the timer base advances by one reading while the part is out of reset (the model's
choice, assumption 1). -/
def Obligations.StepTakesTheFrontCommand : Prop :=
  (∀ (c : Instr) (rest : List Instr) (s : State),
    step { s with pending := c :: rest } = exec c { s with pending := rest }) ∧
  ∀ s : State, s.pending = [] →
    step s = .next { s with now := if s.ports.resetHeld then s.now else s.now + 1 }

/-- RESET (R13, R42, R56, R62, R75, R102, R127, R141, R166, R172, R177, R179, R180): every block at
its RESET value; the role is STANDBY when AUDIO_READY is low. The reading 0, the silence at the ports,
the kept draw index, the settings put back to those of no image and the value 0 of an IDLE queue's
*next* are the model's (assumptions 3, 6, 12, 15, 16). RESET_RELEASE then starts one read
of the image, and changes nothing when RESET is not held (assumption 9). -/
def Obligations.ResetHoldsEveryBlockAtRest : Prop :=
  (∀ s : State, exec .reset s = .next
    { now := 0
      ports :=
        { resetHeld := true, audioReady := s.ports.audioReady, mediumBusy := s.ports.mediumBusy,
          earOut := Block.silence, callOut := Block.silence, radioOut := none }
      lp :=
        { access := .idle, cw := 8, backoff := none, idleMark := none, slotEnd := none,
          sendDoneAt := none, framesSent := 0, checkFailures := 0, foreignFrames := 0,
          numberClashes := 0, draws := s.lp.draws }
      sa :=
        { queue := [], frameSeq := 0, presenceTimer := none, scheduledDue := false,
          promotionTimer := none, promptDue := false, hailTimer := none, hailDue := false,
          leaveDue := false, sendDrops := 0 }
      cu := { captureCount := 0, avg := 0, spurt := .quiet, hangover := 0, spurtSent := false }
      ru := { peers := [], departed := [], window := none, rosterFull := 0, codeMismatch := 0 }
      wl :=
        { role := if s.ports.audioReady then .lead else .standby, stepDown := false,
          ownMute := false }
      rq :=
        { queue := { mode := .idle, next := 0, primeWait := 0, conceal := 0, lastReal := none,
                     entries := [], counts := ⟨0, 0, 0, 0, 0⟩ }
          slip := { highRun := 0, lowRun := 0, pending := none, wait := 0 }, slips := 0 }
      me :=
        { ear := { duck := 1024, limiter := 32768, overloads := 0 }
          up := { duck := 1024, limiter := 32768, overloads := 0 }, hold := 0 }
      bu := { state := .off, callFlag := false, settle := none, followed := none }
      cq :=
        { slots := ⟨⟨false, none, false⟩, ⟨false, none, false⟩, ⟨false, none, false⟩,
                    ⟨false, none, false⟩⟩
          view := none, latches := ⟨false, false⟩, merges := ⟨0, 0⟩, holder := none, grant := none,
          floorQueue := [] }
      cl :=
        { flags := 0, mask := 0, outcomes := ⟨.nothing, .nothing, .nothing, .nothing⟩,
          sending := none, waiting := [], unknownCommands := 0, reportOverflows := 0 }
      sl :=
        { state := .loading, reading := false, fault := .noFault, settings := Settings.unloaded }
      pending := s.pending }) ∧
  ∀ s : State, exec .resetRelease s = .next
    (if s.ports.resetHeld then
      { s with ports := { s.ports with resetHeld := false }, sl := { s.sl with reading := true } }
    else s)

/-- LOADING_COMPLETE with an image that fails a check (R183): HALTED with the fault code of the
first check that fails, CONFIG_FAULT set, and nothing else changed. LOADING_COMPLETE with an image
that passes (R181, R184, R5, R75): RUNNING with its settings, the mask taken, the fault code
CLAMPED with CONFIG_FAULT when a setting was clamped, the idle mark set on an idle medium, and a
scheduled PRESENCE due, to which the Link Port reacts. Without a read in progress the event
changes nothing (assumption 9). -/
def Obligations.LoadingChecksTheImage : Prop :=
  (∀ (img : Image) (s : State), s.sl.state = .loading → s.sl.reading = true →
    let halts (f : FaultCode) : Prop := exec (.loadingComplete img) s = .next
      { s with
        sl := { s.sl with state := .halted, reading := false, fault := f }
        cl := { s.cl with flags := s.cl.flags ||| BitVec.twoPow 12 11 } }
    let formatOk := img.byteAt 0 % 16 = 1
    let sumOk := img.byteAt 70 * 256 + img.byteAt 71 =
      ((List.range 70).map img.byteAt).sum % 65536
    let stationOk := 1 ≤ img.byteAt 1 ∧ img.byteAt 1 ≤ 254
    let wearerOk := img.byteAt 0 / 16 ≠ 0
    let groupOk := img.byteAt 2 * 256 + img.byteAt 3 ≠ 0 ∧
      img.byteAt 2 * 256 + img.byteAt 3 ≠ 65535
    (¬formatOk → halts .format) ∧ (formatOk → ¬sumOk → halts .sum) ∧
    (formatOk → sumOk → ¬stationOk → halts .station) ∧
    (formatOk → sumOk → stationOk → ¬wearerOk → halts .wearer) ∧
    (formatOk → sumOk → stationOk → wearerOk → ¬groupOk → halts .group)) ∧
  ((∀ (img : Image) (s : State), s.sl.state = .loading → s.sl.reading = true → imagePasses img →
    exec (.loadingComplete img) s = .next (State.linkReact
      { s with
        sl := { state := .running, reading := false, settings := imageSettings img,
                fault := if imageClamped img then .clamped else .noFault }
        cl := { s.cl with
          mask := BitVec.ofNat 12 (img.byteAt 12 * 256 + img.byteAt 13)
          flags := if imageClamped img then s.cl.flags ||| BitVec.twoPow 12 11 else s.cl.flags }
        lp := { s.lp with
          idleMark := if s.ports.mediumBusy then s.lp.idleMark else some s.now }
        sa := { s.sa with scheduledDue := true, promotionTimer := some (s.now + 10000) } })) ∧
  ∀ (img : Image) (s : State), ¬(s.sl.state = .loading ∧ s.sl.reading = true) →
    exec (.loadingComplete img) s = .next s)

/-- The settings that an image gives (R182, R184): each is its field, or the nearer end of its range,
and a setting was clamped exactly when a field lies outside. -/
def Obligations.SettingsAreDecodedAndClamped : Prop :=
  ∀ img : Image, let c := imageSettings img; let b := img.byteAt
    c.station = b 1 ∧ c.wearer = b 0 / 16 ∧ c.group.toNat = b 2 * 256 + b 3 ∧
    c.code.toNat = ((b 4 * 256 + b 5) * 256 + b 6) * 256 + b 7 ∧
    c.joinTime = max 10 (min 60 (b 8 % 64)) ∧ c.margin = b 8 / 64 ∧ c.depth = b 9 % 8 + 1 ∧
    c.grantTime = max 2 (min 30 (b 9 / 8)) ∧ c.guard = b 10 % 16 ∧
    c.attack = 2 ^ (max 1 (min 11 (b 10 / 16)) - 1) ∧
    c.release = 2 ^ (max 1 (min 11 (b 11 % 16)) - 1) ∧
    c.limiterRelease = 2 ^ (max 1 (min 13 (b 11 / 16)) - 1) ∧
    c.packWait = min 8 (b 12 / 16) ∧
    c.hangover = max 10 (min 100 (b 14 / 2)) ∧ c.packCount = b 14 % 2 * 2 + b 15 / 128 + 1 ∧
    c.quietThreshold = 16 * b 17 ∧ c.callThreshold = 16 * b 18 ∧
    c.callTarget = (if b 19 = 255 then 1024 else 4 * b 19) ∧
    c.floorTarget = (if b 20 = 255 then 1024 else 4 * b 20) ∧ c.duckHold = min 250 (b 21) ∧
    c.downlinkGain = b 22 * 16 + b 23 / 16 ∧ c.sidetone = b 23 % 16 * 256 + b 24 ∧
    (∀ w : Nat, 1 ≤ w → w ≤ 15 →
      let e := c.mapEntry w
      e.ear = b (22 + 3 * w) * 16 + b (23 + 3 * w) / 16 ∧
      e.up = b (23 + 3 * w) % 16 * 256 + b (24 + 3 * w) ∧
      e.exempt = (if w ≤ 8 then (img.bytes.getD 16 0).getLsbD (w - 1)
                  else (img.bytes.getD 15 0).getLsbD (w - 9))) ∧
    (imagePasses img → c.InRange) ∧
    (imageClamped img = true ↔
      b 8 % 64 < 10 ∨ 60 < b 8 % 64 ∨ b 9 / 8 < 2 ∨ 30 < b 9 / 8 ∨ 8 < b 12 / 16 ∨ b 14 / 2 < 10 ∨
      100 < b 14 / 2 ∨ 250 < b 21 ∨ b 10 / 16 = 0 ∨ 11 < b 10 / 16 ∨ b 11 % 16 = 0 ∨
      11 < b 11 % 16 ∨ b 11 / 16 = 0 ∨ 13 < b 11 / 16)

/-! ## The Link Port -/

/-- MEDIUM_BUSY and MEDIUM_IDLE (R5, R7): the level is the one reported; RUNNING in IDLE or DEFER,
a busy level loses the slot in progress and a change to idle sets the idle mark to now; otherwise
the Link Port does not take the change (R13). QUIET_GAP_REACHED and BACKOFF_SLOT_END (R7): in
DEFER on an idle medium the quiet gap ends 150 µs after the idle mark, and with count 0 the Link
Port asks, else the first slot of 50 µs begins; each slot end lowers the count by 1, and at 0 the
Link Port asks, else the next slot begins at once. The events change nothing where no gap or slot
runs (assumptions 2, 9). -/
def Obligations.MediumIsCountedQuiet : Prop :=
  (∀ s : State,
    let listens := s.running ∧ (s.lp.access = .idle ∨ s.lp.access = .defer)
    (listens → exec .mediumBusy s = .next
      { s with ports := { s.ports with mediumBusy := true }, lp := { s.lp with slotEnd := none } }) ∧
    (¬listens → exec .mediumBusy s = .next
      { s with ports := { s.ports with mediumBusy := true } }) ∧
    (listens → s.ports.mediumBusy = true → exec .mediumIdle s = .next
      { s with ports := { s.ports with mediumBusy := false },
               lp := { s.lp with idleMark := some s.now } }) ∧
    (¬listens ∨ s.ports.mediumBusy = false → exec .mediumIdle s = .next
      { s with ports := { s.ports with mediumBusy := false } })) ∧
  (∀ s : State,
    (∀ m n, s.lp.access = .defer → s.ports.mediumBusy = false → s.lp.idleMark = some m →
      s.lp.slotEnd = none → s.lp.backoff = some n →
      exec .quietGapReached s = .next
        (if n = 0 then State.ask { s with now := max s.now (m + 15) }
         else { s with now := max s.now (m + 15),
                       lp := { s.lp with slotEnd := some (m + 20) } })) ∧
    (∀ e n, s.lp.access = .defer → s.lp.slotEnd = some e → s.lp.backoff = some n →
      exec .backoffSlotEnd s = .next
        (if n ≤ 1 then State.ask { s with now := max s.now e,
                                          lp := { s.lp with
                                            backoff := some 0, slotEnd := some (e + 5) } }
         else { s with now := max s.now e,
                       lp := { s.lp with backoff := some (n - 1), slotEnd := some (e + 5) } })) ∧
    (s.lp.access ≠ .defer ∨ s.ports.mediumBusy = true ∨ s.lp.idleMark = none ∨ s.lp.slotEnd ≠ none →
      exec .quietGapReached s = .next s) ∧
    (s.lp.access ≠ .defer ∨ s.lp.slotEnd = none → exec .backoffSlotEnd s = .next s))

/-- The Link Port meets the frame-due indication (R6, R9): from IDLE with a frame due it asks at once
on a medium quiet for 150 µs and defers otherwise, with CW doubled to at most 64 and a count drawn
below it; in DEFER with none due it returns to IDLE with its count dropped and CW kept; in every other
case nothing changes. Which number is drawn is free (assumption 3); that the Link Port reacts to the
level of the indication at the end of a step is the model's reading (assumption 7). -/
def Obligations.LinkPortMeetsFrameDue : Prop :=
  ∀ s : State,
    (s.lp.access = .sending ∨ s.lp.access = .turnaround → s.linkReact = s) ∧
    (s.lp.access = .idle → s.frameDue = false → s.linkReact = s) ∧
    (s.lp.access = .defer → s.frameDue = true → s.linkReact = s) ∧
    (s.lp.access = .defer → s.frameDue = false → s.linkReact =
      { s with lp := { s.lp with access := .idle, backoff := none, slotEnd := none } }) ∧
    (s.lp.access = .idle → s.frameDue = true → s.QuietGap → s.linkReact = s.ask) ∧
    (s.lp.access = .idle → s.frameDue = true → ¬s.QuietGap → 0 < s.lp.cw →
      ∃ n, n < min 64 (2 * s.lp.cw) ∧ s.linkReact =
        { s with lp := { s.lp with
          access := .defer, cw := min 64 (2 * s.lp.cw), backoff := some n, slotEnd := none,
          draws := s.lp.draws + 1 } })

/-- SEND_DONE and TURNAROUND_EXPIRY (R10, R11, R5): a send-done in SENDING sets CW to 8, counts a frame
and begins TURNAROUND, which with a guard of 0 ends at once; TURNAROUND ends at the guard, in units of
20 µs, with the idle mark at the send-done when the medium is idle, and the Link Port then starts the
access procedure when a frame is due. A send-done elsewhere is disregarded. At the expiry the timer
base has reached the guard's end (assumption 2); with no turnaround running the expiry changes nothing
(assumption 9), and the start of the access procedure is the reaction of assumption 7. -/
def Obligations.SendDoneAndTurnaround : Prop :=
  ∀ s : State,
    let sent : LinkPort :=
      { s.lp with cw := 8, framesSent := min 65535 (s.lp.framesSent + 1) }
    (s.lp.access = .sending → s.cfg.guard ≠ 0 → exec .sendDone s = .next
      { s with lp := { sent with access := .turnaround, sendDoneAt := some s.now } }) ∧
    (s.lp.access = .sending → s.cfg.guard = 0 → exec .sendDone s = .next (State.linkReact
      { s with lp := { sent with
          access := .idle, sendDoneAt := none,
          idleMark := if s.ports.mediumBusy then s.lp.idleMark else some s.now } })) ∧
    (s.lp.access ≠ .sending → exec .sendDone s = .next s) ∧
    (∀ d, s.lp.access = .turnaround → s.lp.sendDoneAt = some d →
      exec .turnaroundExpiry s = .next (State.linkReact
        { s with now := max s.now (d + 2 * s.cfg.guard),
                 lp := { s.lp with
                   access := .idle, sendDoneAt := none,
                   idleMark := if s.ports.mediumBusy then s.lp.idleMark else some d } })) ∧
    (s.lp.access ≠ .turnaround ∨ s.lp.sendDoneAt = none → exec .turnaroundExpiry s = .next s)

/-! ## The Send Assembler -/

/-- The frame choice (R68, R72): LEAVE, HAIL, prompt PRESENCE, TALK, scheduled PRESENCE, the first of
them that is due; TALK is due on a queue of at least one entry with *P* entries of a tag, an END, an
oldest entry *W* ms old, or isolation; the indication is raised while RUNNING with a kind due. -/
def Obligations.FrameChoiceIsRanked : Prop :=
  ∀ s : State,
    let count (t : Tag) := (s.sa.queue.filter (fun e => e.tag = t)).length
    (s.talkDue = true ↔ ∃ oldest rest, s.sa.queue = oldest :: rest ∧
      (s.cfg.packCount ≤ count .voice ∨ s.cfg.packCount ≤ count .call ∨
       (∃ e ∈ s.sa.queue, e.tag = .voice ∧ e.isEnd = true) ∨
       s.cfg.packWait ≤ 2 * (s.cu.captureCount - oldest.seq).toNat ∨
       s.ports.audioReady = false)) ∧
    (s.sa.leaveDue = true → s.chooseKind = some .leave) ∧
    (s.sa.leaveDue = false → s.sa.hailDue = true → s.chooseKind = some .hail) ∧
    (s.sa.leaveDue = false → s.sa.hailDue = false → s.sa.promptDue = true →
      s.chooseKind = some .presence) ∧
    (s.sa.leaveDue = false → s.sa.hailDue = false → s.sa.promptDue = false → s.talkDue = true →
      s.chooseKind = some .talk) ∧
    (s.sa.leaveDue = false → s.sa.hailDue = false → s.sa.promptDue = false → s.talkDue = false →
      s.chooseKind = if s.sa.scheduledDue then some .presence else none) ∧
    (s.frameDue = true ↔ s.running ∧ s.chooseKind ≠ none)

/-- The ask (R8, R15, R69 to R71, R73, R74): with a kind due, the frame of that kind is formed from the
state as it stands, handed to the radio, and SENDING entered with CW kept; its due condition clears,
the frame sequence advances, and nothing else changes. With none due, IDLE is entered. -/
def Obligations.AskHandsOverOneFrame : Prop :=
  ∀ s : State,
    (s.chooseKind = none → s.ask =
      { s with lp := { s.lp with access := .idle, backoff := none, slotEnd := none } }) ∧
    ∀ k, s.chooseKind = some k → ∃ f : Frame,
      f.header.kind = k ∧ f.header.group = s.cfg.group ∧ f.header.station = s.cfg.station ∧
      f.header.wearer = s.cfg.wearer ∧ f.header.seq = s.sa.frameSeq ∧
      f.header.sender.flags =
        ⟨decide (s.wl.role = .lead), s.wl.ownMute, !s.ports.audioReady,
         decide (s.bu.state = .claiming), decide (s.bu.state = .active)⟩ ∧
      f.header.sender.micScore = min 255 (s.cu.avg / 128) ∧
      (∀ j, f.header.sender.toggles.get j = (s.cq.slots.get j).toggle ∧
        f.header.sender.pending.get j = (s.cq.slots.get j).timer.isSome) ∧
      f.extras = (if s.bu.state = .active ∧ (k = .talk ∨ k = .presence) then some s.extras
                  else none) ∧
      f.body = (match k with
        | .talk => .talk (s.talkSection (s.run .voice)) (s.talkSection (s.run .call))
        | .presence => .presence
            ((s.ru.peers.filter (fun p => p.state = .admitted)).map (·.station))
        | .hail => .hail s.cfg.code
            ((s.ru.peers.filter (fun p => p.hailMark && p.state ≠ .lost)).map (·.station))
        | .leave => .leave) ∧
      s.ask =
        { s with
          lp := { s.lp with access := .sending, backoff := none, slotEnd := none }
          ports := { s.ports with radioOut := some (encodeFrame f) }
          sa := (match k with
            | .talk => { s.sa with
                queue := dropTagged .call (s.run .call).length
                  (dropTagged .voice (s.run .voice).length s.sa.queue)
                frameSeq := s.sa.frameSeq + 1 }
            | .presence => { s.sa with
                scheduledDue := false, promptDue := false, promotionTimer := none,
                presenceTimer := some (s.now + 10000), frameSeq := s.sa.frameSeq + 1 }
            | .hail => { s.sa with
                hailDue := false, hailTimer := some (s.now + 5000),
                frameSeq := s.sa.frameSeq + 1 }
            | .leave => { s.sa with leaveDue := false, frameSeq := s.sa.frameSeq + 1 }) }

/-- A TALK section takes the longest run of consecutive sequence numbers, at most 4, from the oldest
entries of its tag, in order and with their flags, level and samples; it starts at the first one's
sequence, or at the capture count plus 1 when it is empty; the rest of the queue stays (R73, R16). -/
def Obligations.TalkTakesConsecutiveRuns : Prop :=
  ∀ (s : State) (t : Tag),
    let tagged := s.sa.queue.filter (fun e => e.tag = t)
    let run := s.run t
    (∃ rest, tagged = run ++ rest ∧
      (run.length = 4 ∨ rest = [] ∨
        ∃ a b, run.getLast? = some a ∧ rest.head? = some b ∧ b.seq ≠ a.seq + 1)) ∧
    run.length ≤ 4 ∧
    (∀ i a b, run[i]? = some a → run[i + 1]? = some b → b.seq = a.seq + 1) ∧
    (∀ i e, run[i]? = some e → e.seq = (s.talkSection run).first + BitVec.ofNat 16 i ∧
      (s.talkSection run).blocks[i]? = some ⟨e.isStart, e.isEnd, e.level, e.block⟩) ∧
    (s.talkSection run).blocks.length = run.length ∧
    (run = [] → (s.talkSection run).first = s.cu.captureCount + 1) ∧
    (let left := dropTagged t run.length s.sa.queue
     run ++ left.filter (fun e => e.tag = t) = tagged ∧
     left.filter (fun e => e.tag ≠ t) = s.sa.queue.filter (fun e => e.tag ≠ t))

/-- The send queue (R66, R67): a joining entry goes to the back, and a full queue first loses its
oldest; ageing removes exactly the entries 12 or more boundaries old, in place; each removal counts
one send drop and sets SEND_DROP. -/
def Obligations.SendQueueDropsAndAges : Prop :=
  ∀ s : State,
    (∀ e : SendEntry, s.sa.queue.length < 12 → (s.joinQueue e).sa.queue = s.sa.queue ++ [e] ∧
      (s.joinQueue e).sa.sendDrops = min 65535 s.sa.sendDrops ∧ (s.joinQueue e).cl = s.cl) ∧
    (∀ (e old : SendEntry) (rest : List SendEntry), s.sa.queue = old :: rest → 11 ≤ rest.length →
      (s.joinQueue e).sa.queue = rest ++ [e] ∧
      (s.joinQueue e).sa.sendDrops = min 65535 (s.sa.sendDrops + 1) ∧
      (s.joinQueue e).cl = { s.cl with flags := s.cl.flags ||| BitVec.twoPow 12 9 }) ∧
    (let kept := s.sa.queue.filter (fun e => (s.cu.captureCount - e.seq).toNat < 12)
     let removed := s.sa.queue.length - kept.length
     s.ageQueue = { s with
       sa := { s.sa with queue := kept, sendDrops := min 65535 (s.sa.sendDrops + removed) }
       cl := { s.cl with flags :=
         if removed = 0 then s.cl.flags else s.cl.flags ||| BitVec.twoPow 12 9 } })

/-- HAIL_TIMER_EXPIRY, PRESENCE_TIMER_EXPIRY and PRESENCE_PROMOTION (R69, R70): HAIL is due again
while the window is open; a scheduled PRESENCE becomes due, and one due for 100 ms a prompt one. The
timer base has reached the expiry (assumption 2); a stopped timer does not expire; a promoted PRESENCE
is no longer scheduled (assumption 14). -/
def Obligations.SendTimersExpire : Prop :=
  ∀ s : State,
    (∀ e, s.sa.hailTimer = some e → exec .hailTimerExpiry s = .next (State.linkReact
      { s with now := max s.now e,
               sa := { s.sa with hailTimer := none,
                                 hailDue := s.sa.hailDue || s.ru.window.isSome } })) ∧
    (∀ e, s.sa.presenceTimer = some e → exec .presenceTimerExpiry s = .next (State.linkReact
      { s with now := max s.now e,
               sa := { s.sa with presenceTimer := none, scheduledDue := true,
                                 promotionTimer := some (e + 10000) } })) ∧
    (∀ e, s.sa.promotionTimer = some e → exec .presencePromotion s = .next
      { s with now := max s.now e,
               sa := { s.sa with promotionTimer := none, scheduledDue := false,
                                 promptDue := true } }) ∧
    (s.sa.hailTimer = none → exec .hailTimerExpiry s = .next s) ∧
    (s.sa.presenceTimer = none → exec .presenceTimerExpiry s = .next s) ∧
    (s.sa.promotionTimer = none → exec .presencePromotion s = .next s)

/-! ## Arrivals -/

/-- FRAME_ARRIVAL is discarded, with no count, flag or other effect, while the loader is not
RUNNING and while the Link Port is SENDING or in TURNAROUND (R1). The receive filter (R2): the
first test that fails of verdict, form, group and source decides; its count rises by 1 up to
65535, NUMBER_CLASH is set with the last, nothing else changes, and the Link Port meets the
frame-due indication. -/
def Obligations.ReceiveFilterTakesFourTests : Prop :=
  (∀ (bytes : List Byte) (good : Bool) (s : State),
    ¬s.running ∨ s.lp.access = .sending ∨ s.lp.access = .turnaround →
    exec (.frameArrival bytes good) s = .next s) ∧
  (∀ (bytes : List Byte) (good : Bool) (s : State),
    s.running → (s.lp.access = .idle ∨ s.lp.access = .defer) →
    (good = false ∨ parseFrame bytes = none →
      exec (.frameArrival bytes good) s = .next (State.linkReact
        { s with lp := { s.lp with checkFailures := min 65535 (s.lp.checkFailures + 1) } })) ∧
    ∀ f, good = true → parseFrame bytes = some f →
      (f.header.group ≠ s.cfg.group →
        exec (.frameArrival bytes good) s = .next (State.linkReact
          { s with lp := { s.lp with foreignFrames := min 65535 (s.lp.foreignFrames + 1) } })) ∧
      (f.header.group = s.cfg.group → f.header.station = s.own →
        exec (.frameArrival bytes good) s = .next (State.linkReact
          { s with lp := { s.lp with numberClashes := min 65535 (s.lp.numberClashes + 1) },
                   cl := { s.cl with flags := s.cl.flags ||| BitVec.twoPow 12 0 } })))

/-- A frame that admits nobody is used for nothing further (R21 step 2, R24, R30, R34): a HAIL with
another code only raises the code-mismatch count; a newcomer, or a HAILED sender of anything but a
HAIL in an open window, that is not vouched for changes nothing; a newcomer that needs an entry in a
table of 9 only raises the roster-full count and sets ROSTER_FULL. -/
def Obligations.UnadmittedFramesAreUsedForNothing : Prop :=
  ∀ (bytes : List Byte) (f : Frame) (s : State), s.Passes bytes f → f.header.kind ≠ .leave →
    let n := f.header.station
    let pairs := s.ru.window.isSome = true ∧ ∃ code heard, f.body = .hail code heard
    (¬s.OwnCode f → exec (.frameArrival bytes true) s = .next (State.linkReact
      { s with ru := { s.ru with codeMismatch := min 65535 (s.ru.codeMismatch + 1) } })) ∧
    (s.OwnCode f → ¬pairs → (∀ p, s.peer n = some p → p.state = .hailed) → ¬s.Vouched n →
      exec (.frameArrival bytes true) s = .next s.linkReact) ∧
    (s.OwnCode f → s.peer n = none → 9 ≤ s.ru.peers.length → pairs ∨ s.Vouched n →
      exec (.frameArrival bytes true) s = .next (State.linkReact
        { s with ru := { s.ru with rosterFull := min 65535 (s.ru.rosterFull + 1) },
                 cl := { s.cl with flags := s.cl.flags ||| BitVec.twoPow 12 1 } }))

/-- Direct pairing without admission yet (R28, R29, R20): in an open window a matching HAIL that
does not name us makes, or renews, a HAILED entry with its hail mark set and takes the sender off the
departed list; nothing else changes unless a peer vouches for the sender. -/
def Obligations.HailWithoutUsMakesHailedEntry : Prop :=
  ∀ (bytes : List Byte) (f : Frame) (code : BitVec 32) (heard : List Nat) (s : State),
    s.Passes bytes f → f.header.kind = .hail → f.body = .hail code heard → code = s.cfg.code →
    s.ru.window.isSome = true → s.own ∉ heard →
    (∀ p ∈ s.ru.peers, p.state = .admitted → f.header.station ∉ p.roster) →
    let n := f.header.station
    let departed := s.ru.departed.filter (fun d => d.station ≠ n)
    (s.peer n = none → s.ru.peers.length < 9 →
      exec (.frameArrival bytes true) s = .next (State.linkReact
        { s with ru := { s.ru with
          departed := departed
          peers := insertPeer
            { station := n, wearer := f.header.wearer, state := .hailed, lastHeard := s.now,
              lostAt := none, lastSeq := f.header.seq, header := f.header.sender, roster := [],
              heard := heard, hailedMe := false, hailMark := true, lastSeen := none, frames := 1,
              missed := 0, queue := none } s.ru.peers } })) ∧
    (∀ p, s.peer n = some p → p.state = .hailed →
      exec (.frameArrival bytes true) s = .next (State.linkReact
        { s with ru := { s.ru with
          departed := departed
          peers := updatePeer n (fun p => { p with
            lastSeq := f.header.seq, header := f.header.sender, wearer := f.header.wearer,
            lastHeard := s.now, frames := min 65535 (p.frames + 1), heard := heard,
            hailedMe := false, hailMark := true }) s.ru.peers } }))

/-- What every admission leaves (R32, R33): the entry ADMITTED with an empty IDLE voice queue and the
admitting frame's header, PEER_JOINED set, a prompt PRESENCE due unless the Link Port has just been
handed a frame, every other entry as it was but for last-seen toggles, and the capture, the mix, the
loader and the departed list (but for the sender) as they were. What is handed on (R23, R33, R48,
R130, R148, R151): with the entry up to date, an ACTIVE bridge takes the header as that of a station
without last-seen toggles; then the role is evaluated exactly when the frame carries the own wearer,
then the Bridge Unit, then the Call Request Unit takes the header with its extras; nothing else. -/
def Obligations.AdmissionMakesPeer : Prop :=
  ∀ (bytes : List Byte) (f : Frame) (s : State), s.Passes bytes f → s.OwnCode f →
    f.header.kind ≠ .leave → s.RosterOk →
    let n := f.header.station
    let named := ∃ code heard, f.body = .hail code heard ∧ s.own ∈ heard
    let isHail := ∃ code heard, f.body = .hail code heard
    let open' := s.ru.window.isSome = true
    let newcomer := s.peer n = none ∧ s.ru.peers.length < 9
    let wasHailed := ∃ p, s.peer n = some p ∧ p.state = .hailed
    let vouched := ∃ p ∈ s.ru.peers, p.state = .admitted ∧ n ∈ p.roster
    (newcomer ∨ wasHailed) →
    (open' ∧ isHail ∧ (named ∨ vouched)) ∨ (¬(open' ∧ isHail) ∧ s.Vouched n) →
    ∃ (t : State) (p : Peer), exec (.frameArrival bytes true) s = .next t ∧ t.peer n = some p ∧
      p.state = .admitted ∧ p.wearer = f.header.wearer ∧ p.lastHeard = s.now ∧
      p.lastSeq = f.header.seq ∧ p.header = f.header.sender ∧ p.lostAt = none ∧
      p.queue = some (RxQueue.cleared ⟨0, 0, 0, 0, 0⟩) ∧
      (newcomer → p.frames = 1 ∧ p.missed = 0) ∧
      (∀ q, s.peer n = some q → p.frames = min 65535 (q.frames + 1) ∧ p.missed = q.missed) ∧
      (p.hailMark = true ↔ open' ∧ isHail ∨ ∃ q, s.peer n = some q ∧ q.hailMark = true) ∧
      t.flag .peerJoined = true ∧ (t.sa.promptDue = true ∨ t.lp.access = .sending) ∧
      (∀ j, j ≠ n → (t.peer j).map Peer.unseen = (s.peer j).map Peer.unseen) ∧
      (open' ∧ isHail → t.ru.departed = s.ru.departed.filter (fun d => d.station ≠ n)) ∧
      (¬(open' ∧ isHail) → t.ru.departed = s.ru.departed) ∧
      t.ru.window = s.ru.window ∧ t.ru.rosterFull = s.ru.rosterFull ∧
      t.ru.codeMismatch = s.ru.codeMismatch ∧ t.cu = s.cu ∧ t.me = s.me ∧ t.sl = s.sl ∧
      t.now = s.now ∧
      ∃ (r : State) (x : Peer), r.peer n = some x ∧ x.unseen = p.unseen ∧
        x.lastSeen = (if s.bu.state = .active then none else (s.peer n).bind (·.lastSeen)) ∧
        (∀ j, j ≠ n → r.peer j = s.peer j) ∧
        r = { s with
          ru := { s.ru with peers := r.ru.peers, departed := t.ru.departed }
          sa := { s.sa with promptDue := true }
          cl := { s.cl with flags := s.cl.flags ||| BitVec.twoPow 12 2 } } ∧
        t = State.linkReact (State.headerTaken
          (if s.bu.state = .active then r.bridgeHeader n f.header.sender else r)
          f (f.header.wearer = s.cfg.wearer))

/-- Refresh (R17, R22, R28): a frame from an ADMITTED or LOST peer counts, counts its gap as missed
frames when the peer was ADMITTED and the gap is not 255, makes a LOST peer ADMITTED without
PEER_JOINED, and brings its header, wearer, last heard, lists and hail mark up to date. Every other
entry stays but for last-seen toggles. What is handed on (R23, R48, R130, R148, R152): with the entry
up to date and nothing else changed, the role is evaluated exactly when the entry was a mate or the
frame carries the own wearer, then the Bridge Unit, then the Call Request Unit takes the header with
its extras, then the sections of a TALK go to the queues; nothing else. -/
def Obligations.PeerFrameRefreshesEntry : Prop :=
  ∀ (bytes : List Byte) (f : Frame) (s : State) (p : Peer), s.Passes bytes f → s.OwnCode f →
    f.header.kind ≠ .leave → s.RosterOk → s.peer f.header.station = some p → p.state ≠ .hailed →
    let n := f.header.station
    let gap := (f.header.seq - p.lastSeq - 1).toNat
    ∃ (t : State) (q : Peer), exec (.frameArrival bytes true) s = .next t ∧ t.peer n = some q ∧
      q.state = .admitted ∧ q.lostAt = none ∧ q.frames = min 65535 (p.frames + 1) ∧
      q.missed = (if p.state = .admitted ∧ gap ≠ 255 then min 65535 (p.missed + gap)
                  else min 65535 p.missed) ∧
      q.lastSeq = f.header.seq ∧ q.header = f.header.sender ∧ q.wearer = f.header.wearer ∧
      q.lastHeard = s.now ∧
      (∀ l, f.body = .presence l → q.roster = l ∧ q.heard = p.heard ∧ q.hailedMe = p.hailedMe) ∧
      (∀ c l, f.body = .hail c l →
        q.roster = p.roster ∧ q.heard = l ∧ q.hailedMe = decide (s.own ∈ l) ∧
        q.hailMark = (p.hailMark || s.ru.window.isSome)) ∧
      (∀ v c, f.body = .talk v c →
        q.roster = p.roster ∧ q.heard = p.heard ∧ q.hailedMe = p.hailedMe) ∧
      ((∀ c l, f.body ≠ .hail c l) → q.hailMark = p.hailMark) ∧
      ((∀ v c, f.body ≠ .talk v c) → q.queue = p.queue) ∧
      (∀ j, j ≠ n → (t.peer j).map Peer.unseen = (s.peer j).map Peer.unseen) ∧
      t.flag .peerJoined = s.flag .peerJoined ∧ t.ru.departed = s.ru.departed ∧
      t.ru.window = s.ru.window ∧ t.cu = s.cu ∧ t.sl = s.sl ∧ t.now = s.now ∧
      ∃ x : Peer, x.unseen = { q.unseen with queue := p.queue } ∧ x.lastSeen = p.lastSeen ∧
        let r : State := { s with ru := { s.ru with peers := updatePeer n (fun _ => x) s.ru.peers } }
        let u := r.headerTaken f (p.wearer = s.cfg.wearer ∨ f.header.wearer = s.cfg.wearer)
        t = State.linkReact (match f.body with
          | .talk v c => (u.placeVoice n v).placeCall n c
          | _ => u)

/-- The sections of a TALK from a peer (R78, R79, R99): the voice section goes to the sender's voice
queue; the call section goes to the downlink queue exactly when the sender is the followed bridge
after this frame's header, and a change of followed bridge has flushed that queue first. -/
def Obligations.SectionsReachTheirQueues : Prop :=
  ∀ (bytes : List Byte) (f : Frame) (v c : TalkSection) (s : State) (p : Peer) (q : RxQueue),
    s.Passes bytes f → f.header.kind = .talk → f.body = .talk v c → s.RosterOk →
    s.peer f.header.station = some p → p.state ≠ .hailed → p.queue = some q →
    let n := f.header.station
    ∃ t : State, exec (.frameArrival bytes true) s = .next t ∧
      (t.peer n).bind (·.queue) =
        some (q.placeAll s.cfg.depth (numberBlocks v.first v.blocks)).1 ∧
      (let held := if t.bu.followed = s.bu.followed then s.rq.queue else s.rq.queue.flush
       t.rq.queue = (if t.bu.followed = some n
         then (held.placeAll s.cfg.depth (numberBlocks c.first c.blocks)).1 else held)) ∧
      (t.flag .queueSlide = true ↔ s.flag .queueSlide = true ∨
        (q.placeAll s.cfg.depth (numberBlocks v.first v.blocks)).2 = true ∨
        t.bu.followed = some n ∧
          ((if t.bu.followed = s.bu.followed then s.rq.queue else s.rq.queue.flush).placeAll
            s.cfg.depth (numberBlocks c.first c.blocks)).2 = true)

/-- A LEAVE frame (R39, R40): the sender's entry goes at once, with PEER_LEFT when it was ADMITTED or
LOST; the sender becomes the newest of the departed list for 10 s, a fifth dropping the oldest; the
other entries stay but for last-seen toggles. The removal notice of an ADMITTED or LOST sender (R38):
with the entry gone, the role is evaluated exactly when it was a mate, then the Bridge Unit, and an
ACTIVE bridge takes the station off the floor; nothing else. -/
def Obligations.LeaveFrameRemovesSender : Prop :=
  ∀ (bytes : List Byte) (f : Frame) (s : State), s.Passes bytes f → f.header.kind = .leave →
    s.RosterOk →
    let n := f.header.station
    let others := s.ru.departed.filter (fun d => d.station ≠ n)
    ∃ t : State, exec (.frameArrival bytes true) s = .next t ∧ t.peer n = none ∧
      (∀ j, j ≠ n → (t.peer j).map Peer.unseen = (s.peer j).map Peer.unseen) ∧
      t.ru.departed = (if 4 ≤ others.length then others.drop 1 else others) ++
        [⟨n, s.now + 1000000⟩] ∧
      (t.flag .peerLeft = true ↔ s.flag .peerLeft = true ∨
        ∃ p, s.peer n = some p ∧ p.state ≠ .hailed) ∧
      t.ru.window = s.ru.window ∧ t.ru.rosterFull = s.ru.rosterFull ∧ t.cu = s.cu ∧ t.sl = s.sl ∧
      t.now = s.now ∧
      let r : State :=
        { s with ru := { s.ru with peers := s.ru.peers.filter (fun q => q.station ≠ n) } }
      (∀ p, s.peer n = some p → p.state ≠ .hailed →
        let u := r.noticeTaken n (p.wearer = s.cfg.wearer)
        t = State.linkReact { u with
          ru := { u.ru with departed := t.ru.departed }
          cl := { u.cl with flags := u.cl.flags ||| BitVec.twoPow 12 4 } }) ∧
      ((∀ p, s.peer n = some p → p.state = .hailed) →
        t = State.linkReact { r with ru := { r.ru with departed := t.ru.departed } })

/-! ## Pairing commands and the timers of peers -/

/-- JOIN and JOIN_WINDOW_EXPIRY (R25, R26, R70): JOIN opens the window for *J* seconds, emptying the
departed list, clearing the hail marks and making HAIL due, or only restarts its timer; at the expiry
it closes, and HAIL is no longer due. JOIN is discarded while not RUNNING (R170). The HAIL that JOIN
makes due may be asked for within the JOIN (assumptions 7, 21). At the expiry the timer base has
reached it, and with the window closed it changes nothing (assumption 2). -/
def Obligations.JoinOpensAndExpiryClosesWindow : Prop :=
  ∀ s : State,
    (¬s.running → exec .join s = .next s) ∧
    (s.running → s.ru.window = none → exec .join s = .next (State.linkReact
      { s with
        ru := { s.ru with window := some (s.now + 100000 * s.cfg.joinTime), departed := [],
                          peers := s.ru.peers.map (fun p => { p with hailMark := false }) }
        sa := { s.sa with hailDue := true } })) ∧
    (s.running → s.ru.window ≠ none → exec .join s = .next
      { s with ru := { s.ru with window := some (s.now + 100000 * s.cfg.joinTime) } }) ∧
    (∀ e, s.ru.window = some e → exec .joinWindowExpiry s = .next (State.linkReact
      { s with now := max s.now e, ru := { s.ru with window := none },
               sa := { s.sa with hailDue := false, hailTimer := none } })) ∧
    (s.ru.window = none → exec .joinWindowExpiry s = .next s)

/-- LEAVE while RUNNING (R41, R55, R75, R101, R140, R165): a LEAVE is due or the Link Port has just
been handed a frame, the window is closed, the peer table, the departed list and the send queue are
empty, the downlink queue is flushed with its counts kept; a STANDBY station that is not isolated
leads; a YIELDED Bridge Unit claims afresh, OFF, CLAIMING and ACTIVE stay; every slot is IDLE with its
toggle kept and its late mark clear; on the floor only the station itself remains. Own mute, the
counts, the capture, the mix and the last outcomes are kept. -/
def Obligations.LeaveTearsDownTheGroup : Prop :=
  (∀ s : State, ¬s.running → exec .leave s = .next s) ∧
  ∀ s : State, s.running → ∃ t : State, exec .leave s = .next t ∧
    (t.sa.leaveDue = true ∨ t.lp.access = .sending) ∧ t.sa.queue = [] ∧ t.sa.hailTimer = none ∧
    t.sa.hailDue = false ∧ t.sa.sendDrops = s.sa.sendDrops ∧
    t.ru = { s.ru with peers := [], departed := [], window := none } ∧
    t.rq = { queue := RxQueue.cleared s.rq.queue.counts, slip := ⟨0, 0, none, 0⟩,
             slips := s.rq.slips } ∧
    t.wl = { s.wl with role := if s.wl.role = .standby ∧ s.ports.audioReady = true then .lead
                               else s.wl.role } ∧
    t.bu = { s.bu with
      state := if s.bu.state = .yielded then .claiming else s.bu.state
      settle := if s.bu.state = .yielded then some (s.now + 6000) else s.bu.settle
      followed := if s.bu.state = .active then some s.own else none } ∧
    (∀ k, t.cq.slots.get k = ⟨(s.cq.slots.get k).toggle, none, false⟩) ∧
    t.cq.latches = s.cq.latches ∧ t.cq.merges = s.cq.merges ∧
    (∀ n, t.cq.holder = some n ∨ n ∈ t.cq.floorQueue →
      n = s.own ∧ (s.cq.holder = some n ∨ n ∈ s.cq.floorQueue)) ∧
    (s.cq.holder = some s.own → t.cq.holder = some s.own ∧ t.cq.grant = s.cq.grant) ∧
    (∀ n, s.cq.holder = some n → n ≠ s.own → s.own ∈ s.cq.floorQueue →
      t.cq.holder = some s.own ∧ t.cq.grant = some (s.now + 100000 * s.cfg.grantTime)) ∧
    t.cl.outcomes = s.cl.outcomes ∧ t.cu = s.cu ∧ t.me = s.me ∧ t.sl = s.sl ∧ t.now = s.now

/-- PEER_LOSS_EXPIRY, LOST_REMOVAL_EXPIRY, HAILED_EXPIRY and DEPARTED_HOLD_EXPIRY (R35 to R40, R162):
an ADMITTED entry becomes LOST with its fields, counts and queue kept and PEER_LOST set; a LOST or
HAILED entry goes; a departed station leaves the list. At an ACTIVE bridge a lost or removed station
is off the floor. The notice of a loss or of the removal of a LOST entry (R38): with the table up to
date, the role is evaluated exactly when the station was a mate, then the Bridge Unit, and an ACTIVE
bridge takes the station off the floor; nothing else. In any other standing of the station the event changes nothing (assumption 2). -/
def Obligations.PeerTimersExpire : Prop :=
  ∀ (s : State) (n : Nat), s.RosterOk →
    (∀ p, s.peer n = some p → p.state = .admitted → ∃ (t : State) (q : Peer),
      exec (.peerLossExpiry n) s = .next t ∧ t.now = max s.now (p.lastHeard + 30000) ∧
      t.peer n = some q ∧
      q.unseen = { p.unseen with state := .lost, lostAt := some t.now } ∧
      t.flag .peerLost = true ∧ (t.bu.state = .active → s.FloorOk → n ∉ t.onFloor) ∧
      (∀ j, j ≠ n → (t.peer j).map Peer.unseen = (s.peer j).map Peer.unseen) ∧
      t.ru.departed = s.ru.departed ∧ t.cu = s.cu ∧ t.me = s.me ∧ t.sl = s.sl ∧
      let r : State := { s with
        now := t.now
        ru := { s.ru with peers := updatePeer n (fun q => { q with
          state := .lost, lostAt := some t.now }) s.ru.peers }
        cl := { s.cl with flags := s.cl.flags ||| BitVec.twoPow 12 3 } }
      t = r.noticeTaken n (p.wearer = s.cfg.wearer)) ∧
    (∀ p l, s.peer n = some p → p.state = .lost → p.lostAt = some l → ∃ t : State,
      exec (.lostRemovalExpiry n) s = .next t ∧ t.now = max s.now (l + 500000) ∧
      t.peer n = none ∧ (t.bu.state = .active → s.FloorOk → n ∉ t.onFloor) ∧
      (∀ j, j ≠ n → (t.peer j).map Peer.unseen = (s.peer j).map Peer.unseen) ∧
      t.flag .peerLost = s.flag .peerLost ∧ t.flag .peerLeft = s.flag .peerLeft ∧
      t.ru.departed = s.ru.departed ∧ t.cu = s.cu ∧ t.me = s.me ∧ t.sl = s.sl ∧
      let r : State := { s with
        now := t.now
        ru := { s.ru with peers := s.ru.peers.filter (fun q => q.station ≠ n) } }
      t = r.noticeTaken n (p.wearer = s.cfg.wearer)) ∧
    (∀ p, s.peer n = some p → p.state = .hailed → exec (.hailedExpiry n) s = .next
      { s with now := max s.now (p.lastHeard + 100000),
               ru := { s.ru with peers := s.ru.peers.filter (fun q => q.station ≠ n) } }) ∧
    (∀ d ∈ s.ru.departed, d.station = n → exec (.departedHoldExpiry n) s = .next
      { s with now := max s.now d.timer,
               ru := { s.ru with departed := s.ru.departed.filter (fun e => e.station ≠ n) } }) ∧
    ((∀ p, s.peer n = some p → p.state ≠ .admitted) → exec (.peerLossExpiry n) s = .next s) ∧
    ((∀ p, s.peer n = some p → p.state ≠ .lost) → exec (.lostRemovalExpiry n) s = .next s) ∧
    ((∀ p, s.peer n = some p → p.state ≠ .hailed) → exec (.hailedExpiry n) s = .next s) ∧
    ((∀ d ∈ s.ru.departed, d.station ≠ n) → exec (.departedHoldExpiry n) s = .next s)

/-! ## The block boundary and AUDIO_READY -/

/-- BLOCK_BOUNDARY while RUNNING (R57, R58): the capture count advances, and the smoothed level
moves by a sixteenth of its difference from the block's level, rounded toward minus infinity; the
level of a block is its largest absolute sample value. The Bridge Unit, the Call Request Unit, the
loader and the entries but for their queues are not touched. While not RUNNING both ports get
silence and nothing else changes (R104); no boundary occurs while AUDIO_READY is low (assumption
9). What a boundary taken hands on (R51, R63, R64, R66, R67): the capture, then the send queue
aged and joined by the VOICE entry and, at an ACTIVE bridge, by the CALL entry behind it; a
step-down that waited takes effect when the spurt is over; then every queue plays and the buses
are mixed, and the Link Port meets the frame-due indication. -/
def Obligations.BoundaryIsTakenWhole : Prop :=
  ((∀ b : Block, (∀ x ∈ b.samples, x.toInt.natAbs ≤ b.level) ∧
    (b.level = 0 ∨ ∃ x ∈ b.samples, x.toInt.natAbs = b.level)) ∧
  ∀ (mic call : Block) (s : State),
    (s.ports.audioReady = false → exec (.blockBoundary mic call) s = .next s) ∧
    (s.ports.audioReady = true → ¬s.running → exec (.blockBoundary mic call) s = .next
      { s with ports := { s.ports with earOut := Block.silence, callOut := Block.silence } }) ∧
    (s.ports.audioReady = true → s.running → ∃ t : State,
      exec (.blockBoundary mic call) s = .next t ∧
      t.cu.captureCount = s.cu.captureCount + 1 ∧
      (s.cu.avg ≤ 32768 →
        (t.cu.avg : Int) = s.cu.avg + ((mic.level : Int) - s.cu.avg) / 16) ∧
      t.ru.peers.map (fun p => { p with queue := none }) =
        s.ru.peers.map (fun p => { p with queue := none }) ∧
      t.ru.departed = s.ru.departed ∧ t.ru.window = s.ru.window ∧ t.bu = s.bu ∧ t.cq = s.cq ∧
      t.sl = s.sl ∧ t.cl.outcomes = s.cl.outcomes ∧ t.wl.ownMute = s.wl.ownMute ∧ t.now = s.now)) ∧
  (∀ (mic call : Block) (s : State), s.ports.audioReady = true → s.running →
    let c := s.capture mic
    let aged := c.1.ageQueue
    let voiced := match c.2 with
      | some e => aged.joinQueue e
      | none => aged
    let joined := if s.bu.state = .active then
      voiced.joinQueue ⟨.call, s.cu.captureCount + 1, call, call.level, false, false⟩ else voiced
    let d := s.rq.step s.cfg.depth s.cfg.quietThreshold
    let m : MixInput := ⟨mic, c.2.map (·.block), call, d.2⟩
    let loud := s.callLoud m
    let ear := s.me.ear.mix s.cfg (s.earTarget (loud || decide (0 < s.me.hold))) (s.earSources m)
    let up := s.me.up.mix s.cfg s.upTarget (s.upSources m)
    let active := s.bu.state = .active
    ∃ u : State, exec (.blockBoundary mic call) s = .next u.linkReact ∧
      u.sa = joined.sa ∧ u.cl = joined.cl ∧ u.cu = c.1.cu ∧ u.lp = s.lp ∧
      u.rq = d.1 ∧
      u.ru.peers = s.ru.peers.map (fun p =>
        { p with queue := p.queue.map (fun q => (q.playStep s.cfg.depth).1) }) ∧
      u.me.hold = (if loud then s.cfg.duckHold else s.me.hold - 1) ∧
      u.me.ear = ear.1 ∧ u.ports.earOut = ear.2 ∧
      u.me.up = (if active then up.1 else s.me.up) ∧
      u.ports.callOut = (if active then up.2 else Block.silence) ∧
      u.ports.radioOut = s.ports.radioOut ∧ u.ports.audioReady = s.ports.audioReady ∧
      u.wl = (if s.wl.stepDown = true ∧ c.1.cu.spurt = .quiet then
          { s.wl with stepDown := false,
                      role := if s.activeMates = [] then .lead else .standby }
        else s.wl))

/-- The spurt at a boundary taken (R59, R60, R61): a spurt in progress that is sent ends at once when
the wearer is muted, with a zeroed END entry; otherwise R59's table gives the new state and count, a
START block is sent when the role is LEAD and the wearer mute is off, and every block of a sent spurt
is queued as it is, END on the *H*-th non-voice block in a row. -/
def Obligations.SpurtFollowsItsTable : Prop :=
  ∀ (mic : Block) (s : State), s.CaptureOk →
    let voice := s.cfg.quietThreshold < mic.level
    let seq := s.cu.captureCount + 1
    let sends := s.wl.role = .lead ∧ s.wearerMute = false
    let after (sp : Spurt) (n : Nat) (sent : Bool) (e : Option SendEntry) : Prop :=
      (s.capture mic).1.cu.spurt = sp ∧ (s.capture mic).1.cu.hangover = n ∧
      (sp ≠ .quiet → (s.capture mic).1.cu.spurtSent = sent) ∧ (s.capture mic).2 = e
    let entry (isStart isEnd : Bool) : SendEntry := ⟨.voice, seq, mic, mic.level, isStart, isEnd⟩
    let goesOn (isEnd : Bool) : Option SendEntry :=
      if s.cu.spurtSent then some (entry false isEnd) else none
    (s.cu.spurt ≠ .quiet → s.cu.spurtSent = true → s.wearerMute = true →
      after .quiet 0 false (some ⟨.voice, seq, Block.silence, 0, false, true⟩)) ∧
    (s.cu.spurt = .quiet → ¬voice → after .quiet 0 false none) ∧
    (s.cu.spurt = .quiet → voice → sends → after .talking 0 true (some (entry true false))) ∧
    (s.cu.spurt = .quiet → voice → ¬sends → after .talking 0 false none) ∧
    (¬(s.cu.spurtSent = true ∧ s.wearerMute = true) →
      (s.cu.spurt = .talking → voice → after .talking 0 s.cu.spurtSent (goesOn false)) ∧
      (s.cu.spurt = .talking → ¬voice → after .hangover 1 s.cu.spurtSent (goesOn false)) ∧
      (s.cu.spurt = .hangover → voice → after .talking 0 s.cu.spurtSent (goesOn false)) ∧
      (s.cu.spurt = .hangover → ¬voice → s.cu.hangover + 1 < s.cfg.hangover →
        after .hangover (s.cu.hangover + 1) s.cu.spurtSent (goesOn false)) ∧
      (s.cu.spurt = .hangover → ¬voice → s.cu.hangover + 1 = s.cfg.hangover →
        after .quiet 0 false (goesOn true)))

/-- AUDIO_READY_FALL (R44, R62, R139, R137): the station is isolated and STANDBY with no step-down
pending and its mute kept; a spurt in progress ends; the Bridge Unit is OFF with its call flag kept,
and a bridge term ends: the floor is empty with FLOOR_CHANGE when it was held, and set latches are
clear with DROPPED and REQ_OUTCOME (R164); a change of followed bridge sets BRIDGE_CHANGE, flushes the
downlink queue and clears the view (R143). The other queues, the mix, the capture count and the
smoothed level are kept. While not RUNNING only the Wearer Logic acts (R56); a fall of a low level
changes nothing (assumption 9). -/
def Obligations.AudioReadyFallIsolates : Prop :=
  ∀ s : State,
    (s.ports.audioReady = false → exec .audioReadyFall s = .next s) ∧
    (s.ports.audioReady = true → ¬s.running → exec .audioReadyFall s = .next
      { s with ports := { s.ports with audioReady := false },
               wl := { s.wl with role := .standby, stepDown := false } }) ∧
    (s.ports.audioReady = true → s.running → ∃ u : State,
      exec .audioReadyFall s = .next u.linkReact ∧
      u.ports = { s.ports with audioReady := false } ∧
      u.wl = { s.wl with role := .standby, stepDown := false } ∧
      u.cu = { s.cu with spurt := .quiet, hangover := 0, spurtSent := false } ∧
      u.bu.state = .off ∧ u.bu.settle = none ∧ u.bu.callFlag = s.bu.callFlag ∧
      u.bu.followed = ((s.ru.peers.find? (fun p =>
        p.state = .admitted && p.header.flags.active)).map (·.station)) ∧
      let changed : BitVec 12 := if u.bu.followed = s.bu.followed then 0 else BitVec.twoPow 12 5
      u.rq = (if u.bu.followed = s.bu.followed then s.rq else s.rq.flush) ∧
      u.cq.view = (if u.bu.followed = s.bu.followed then s.cq.view else none) ∧
      u.ru.peers.map Peer.unseen = s.ru.peers.map Peer.unseen ∧
      (s.bu.state = .active → u.cq.holder = none ∧ u.cq.grant = none ∧ u.cq.floorQueue = [] ∧
        u.cq.latches = ⟨false, false⟩ ∧ (∀ p ∈ u.ru.peers, p.lastSeen = none) ∧
        u.cl = { s.cl with
          outcomes := { s.cl.outcomes with
            answer := if s.cq.latches.answer then .dropped else s.cl.outcomes.answer
            hangup := if s.cq.latches.hangup then .dropped else s.cl.outcomes.hangup }
          flags := s.cl.flags ||| changed ||| (if s.cq.holder.isSome then BitVec.twoPow 12 7 else 0) |||
            (if s.cq.latches.answer || s.cq.latches.hangup then BitVec.twoPow 12 8 else 0) } ∧
        u.sa = { s.sa with queue := s.sa.queue.filter (fun e => e.tag = .voice) }) ∧
      (s.bu.state ≠ .active → u.sa = s.sa ∧ u.ru = s.ru ∧ u.cq.holder = s.cq.holder ∧
        u.cq.grant = s.cq.grant ∧ u.cq.floorQueue = s.cq.floorQueue ∧
        u.cq.latches = s.cq.latches ∧ u.cl = { s.cl with flags := s.cl.flags ||| changed }) ∧
      u.cq.merges = s.cq.merges ∧ u.cq.slots = s.cq.slots ∧ u.lp = s.lp ∧ u.me = s.me ∧ u.sl = s.sl ∧ u.now = s.now)

/-- AUDIO_READY_RISE (R45, R49, R58, R100, R125, R139): the station is not isolated and leads unless a
mate in view shows LEAD; every receive queue is flushed with its counts kept; the duck factors,
limiter gains and hold count are at rest with the overload counts kept; the smoothed level is 0; with
the call flag set the Bridge Unit claims for 60 ms, or yields at once to a lower claimer with
BRIDGE_YIELD (R133). While not
RUNNING only the Wearer Logic acts (R56); a rise of a high level changes nothing (assumption 9). -/
def Obligations.AudioReadyRiseStartsAfresh : Prop :=
  ∀ s : State,
    let leads : Bool := s.wl.role = .standby && !s.activeMates.any (fun p => p.header.flags.lead)
    (s.ports.audioReady = true → exec .audioReadyRise s = .next s) ∧
    (s.ports.audioReady = false → ¬s.running → s.RoleOk → exec .audioReadyRise s = .next
      { s with ports := { s.ports with audioReady := true },
               wl := { s.wl with role := if leads then .lead else s.wl.role } }) ∧
    (s.ports.audioReady = false → s.running → s.RoleOk → s.bu.state = .off → ∃ u : State,
      exec .audioReadyRise s = .next u.linkReact ∧
      u.ports = { s.ports with audioReady := true } ∧
      u.wl = { s.wl with role := if leads then .lead else s.wl.role } ∧
      u.cu = { s.cu with avg := 0 } ∧
      u.rq = { queue := RxQueue.cleared s.rq.queue.counts, slip := ⟨0, 0, none, 0⟩,
               slips := s.rq.slips } ∧
      u.ru = { s.ru with peers := s.ru.peers.map (fun p =>
        { p with queue := p.queue.map (fun q => RxQueue.cleared q.counts) }) } ∧
      u.me = { ear := ⟨1024, 32768, s.me.ear.overloads⟩, up := ⟨1024, 32768, s.me.up.overloads⟩,
               hold := 0 } ∧
      u.bu.callFlag = s.bu.callFlag ∧
      u.bu.state = (if s.bu.callFlag then (if s.lowerClaimer then .yielded else .claiming)
                    else .off) ∧
      (s.bu.callFlag = true → u.bu.settle =
        if s.lowerClaimer then none else some (s.now + 6000)) ∧
      u.bu.followed = s.bridgeInView ∧
      u.cl = { s.cl with flags := s.cl.flags |||
        (if s.bu.callFlag && s.lowerClaimer then BitVec.twoPow 12 6 else 0) |||
        (if s.bridgeInView = s.bu.followed then 0 else BitVec.twoPow 12 5) } ∧
      u.cq = { s.cq with view := if s.bridgeInView = s.bu.followed then s.cq.view else none } ∧
      u.lp = s.lp ∧ u.sa = s.sa ∧ u.sl = s.sl ∧ u.now = s.now)

/-! ## The control line -/

/-- MUTE_ON and MUTE_OFF while RUNNING set own mute on and off and change nothing else, so no frame
comes due, no outcome is recorded and no flag is set; each frame formed afterwards shows own mute as
MUTED (R46). The wearer mute is on exactly when own mute is on or an ADMITTED mate's last-heard header
shows MUTED (R47). -/
def Obligations.MuteSetsOwnMuteAlone : Prop :=
  ∀ s : State,
    (s.running → exec .muteOn s = .next { s with wl := { s.wl with ownMute := true } }) ∧
    (s.running → exec .muteOff s = .next { s with wl := { s.wl with ownMute := false } }) ∧
    (s.running → s.wl.ownMute = true → exec .muteOn s = .next s) ∧
    (s.running → s.wl.ownMute = false → exec .muteOff s = .next s) ∧
    (¬s.running → exec .muteOn s = .next s ∧ exec .muteOff s = .next s) ∧
    (∀ k, (s.frame k).header.sender.flags.muted = s.wl.ownMute) ∧
    (∀ b, State.frameDue { s with wl := { s.wl with ownMute := b } } = s.frameDue) ∧
    (s.wearerMute = true ↔ s.wl.ownMute = true ∨ ∃ p ∈ s.ru.peers,
      p.wearer = s.cfg.wearer ∧ p.state = .admitted ∧ p.header.flags.muted = true)

/-- CALL_ON (R128, R131, R133): the call flag is set; from OFF with AUDIO_READY high the Bridge Unit
claims for 60 ms, or with a lower claimer is YIELDED at once with BRIDGE_YIELD and no settle timer; in
every other case its state and settle timer stay. The bridge followed is not changed by it in a state
that follows R142. Discarded while not RUNNING (R170). -/
def Obligations.CallOnClaimsTheBridge : Prop :=
  ∀ s : State, (¬s.running → exec .callOn s = .next s) ∧
    (s.running → s.bu.followed = s.bridgeInView →
      let flagged := { s.bu with callFlag := true }
      (s.bu.state ≠ .off ∨ s.ports.audioReady = false →
        exec .callOn s = .next { s with bu := flagged }) ∧
      (s.bu.state = .off → s.ports.audioReady = true → s.lowerClaimer = false →
        exec .callOn s = .next
          { s with bu := { flagged with state := .claiming, settle := some (s.now + 6000) } }) ∧
      (s.bu.state = .off → s.ports.audioReady = true → s.lowerClaimer = true →
        exec .callOn s = .next
          { s with bu := { flagged with state := .yielded, settle := none },
                   cl := { s.cl with flags := s.cl.flags ||| BitVec.twoPow 12 6 } }))

/-- CALL_OFF (R65, R129, R137, R142, R143, R164): the call flag is clear and the Bridge Unit OFF with
its settle timer stopped; from ACTIVE every CALL entry goes uncounted, the floor is emptied, set
latches are cleared with DROPPED, the last-seen toggles go, the followed bridge becomes the lowest
ACTIVE peer or none with BRIDGE_CHANGE, a flushed downlink queue and a cleared view. No other part is
touched. Discarded while not RUNNING (R170). -/
def Obligations.CallOffEndsTheTerm : Prop :=
  ∀ s : State, (¬s.running → exec .callOff s = .next s) ∧
    (s.running → s.BridgeOk →
      (s.bu.state ≠ .active → exec .callOff s = .next (State.linkReact
        { s with bu := { s.bu with callFlag := false, state := .off, settle := none } })) ∧
      (s.bu.state = .active → s.RosterOk → exec .callOff s = .next (State.linkReact
        { s with
          bu := { s.bu with
            callFlag := false, state := .off, settle := none,
            followed := (s.ru.peers.find? (fun p =>
              p.state = .admitted && p.header.flags.active)).map (·.station) }
          sa := { s.sa with queue := s.sa.queue.filter (fun e => e.tag = .voice) }
          ru := { s.ru with peers := s.ru.peers.map Peer.unseen }
          rq := s.rq.flush
          cq := { s.cq with holder := none, grant := none, floorQueue := [], view := none,
                            latches := ⟨false, false⟩ }
          cl := { s.cl with
            outcomes := { s.cl.outcomes with
              answer := if s.cq.latches.answer then .dropped else s.cl.outcomes.answer
              hangup := if s.cq.latches.hangup then .dropped else s.cl.outcomes.hangup }
            flags := s.cl.flags ||| BitVec.twoPow 12 5 |||
              (if s.cq.holder.isSome then BitVec.twoPow 12 7 else 0) |||
              (if s.cq.latches.answer || s.cq.latches.hangup then BitVec.twoPow 12 8
               else 0) } })))

/-- SETTLE_EXPIRY in CLAIMING (R132 to R134, R124, R142, R143, R153): with a lower claimer the Bridge
Unit is YIELDED with BRIDGE_YIELD; with none it is ACTIVE and follows itself with BRIDGE_CHANGE, the
downlink queue is flushed, the view cleared and the uplink bus at rest with its overload count kept,
every ADMITTED entry has its toggles as last seen, every PENDING slot of the own is IDLE with ACCEPTED
and its toggle kept, and a request found pending makes a prompt PRESENCE due. The floor then holds, in
ascending order, exactly the stations found with FLOOR pending and not YIELD, the first as holder with
a fresh grant. Without the timer running in CLAIMING the event changes nothing (assumption 2). -/
def Obligations.SettleExpiryDecidesTheClaim : Prop :=
  ∀ s : State,
    (s.bu.state ≠ .claiming ∨ s.bu.settle = none → exec .settleExpiry s = .next s) ∧
    ∀ e, s.bu.state = .claiming → s.bu.settle = some e → s.bu.followed = s.bridgeInView →
      (s.lowerClaimer = true → exec .settleExpiry s = .next (State.linkReact
        { s with now := max s.now e, bu := { s.bu with state := .yielded, settle := none },
                 cl := { s.cl with flags := s.cl.flags ||| BitVec.twoPow 12 6 } })) ∧
      (s.lowerClaimer = false → s.RosterOk → s.TermOk → ∃ u : State,
        exec .settleExpiry s = .next u.linkReact ∧ u.now = max s.now e ∧
        u.bu = { s.bu with state := .active, settle := none, followed := some s.own } ∧
        u.flag .bridgeChange = true ∧ u.rq = s.rq.flush ∧ u.cq.view = none ∧
        u.me = { s.me with up := ⟨1024, 32768, s.me.up.overloads⟩ } ∧
        u.ru.peers = s.ru.peers.map (fun p =>
          if p.state = .admitted then { p with lastSeen := some p.header.toggles } else p) ∧
        (∀ k, u.cq.slots.get k = { s.cq.slots.get k with timer := none } ∧
          u.cl.outcomes.get k = if (s.cq.slots.get k).timer.isSome then .accepted
                                else s.cl.outcomes.get k) ∧
        (u.cq.latches.answer = true ↔ (s.cq.slots.get .answer).timer.isSome = true ∨
          ∃ p ∈ s.ru.peers, p.state = .admitted ∧ p.header.pending.answer = true) ∧
        (u.cq.latches.hangup = true ↔ (s.cq.slots.get .hangup).timer.isSome = true ∨
          ∃ p ∈ s.ru.peers, p.state = .admitted ∧ p.header.pending.hangup = true) ∧
        (let asks (k : ReqKind) (n : Nat) : Prop :=
           (n = s.own ∧ (s.cq.slots.get k).timer.isSome = true) ∨
           ∃ p ∈ s.ru.peers, p.state = .admitted ∧ p.station = n ∧ p.header.pending.get k = true
         u.onFloor.Pairwise (· < ·) ∧ (∀ n, n ∈ u.onFloor ↔ asks .floor n ∧ ¬asks .yield n) ∧
         (u.cq.holder = none → u.cq.floorQueue = []) ∧
         u.cq.grant = (if u.cq.holder = none then none
           else some (u.now + 100000 * s.cfg.grantTime)) ∧
         (u.flag .floorChange = true ↔ s.flag .floorChange = true ∨ ∃ n, asks .floor n)) ∧
        (u.sa.promptDue = true ↔ s.sa.promptDue = true ∨
          (∃ k, (s.cq.slots.get k).timer.isSome = true) ∨
          ∃ p ∈ s.ru.peers, p.state = .admitted ∧ ∃ k, p.header.pending.get k = true) ∧
        u.sa.queue = s.sa.queue ∧ u.lp = s.lp ∧ u.cu = s.cu ∧ u.wl = s.wl ∧ u.sl = s.sl ∧
        u.ports = s.ports)

/-- REQ (R145, R146, R147, R154): afar, an IDLE slot becomes PENDING for 2000 ms with its toggle
flipped and its late mark clear, no outcome recorded; a PENDING slot stays and BUSY is recorded; at an
ACTIVE bridge the toggle stays, the late mark clears, ACCEPTED is recorded and the request is acted
on, with a prompt PRESENCE due. Discarded while not RUNNING (R170). -/
def Obligations.RequestCommandTakesItsSlot : Prop :=
  ∀ (k : ReqKind) (s : State), let sl := s.cq.slots.get k
    (¬s.running → exec (.req k) s = .next s) ∧
    (s.running → s.bu.state ≠ .active → sl.timer = none →
      exec (.req k) s = .next (State.linkReact
        { s with cq := { s.cq with
          slots := s.cq.slots.set k ⟨!sl.toggle, some (s.now + 200000), false⟩ } })) ∧
    (s.running → s.bu.state ≠ .active → sl.timer ≠ none →
      exec (.req k) s = .next (State.linkReact
        { s with cl := { s.cl with outcomes := s.cl.outcomes.set k .busy,
                                   flags := s.cl.flags ||| BitVec.twoPow 12 8 } })) ∧
    (s.running → s.bu.state = .active → sl.timer = none →
      let u : State :=
        { s with cq := { s.cq with slots := s.cq.slots.set k { sl with late := false } },
                 cl := { s.cl with outcomes := s.cl.outcomes.set k .accepted,
                                   flags := s.cl.flags ||| BitVec.twoPow 12 8 } }
      let v := match k with
        | .answer => u.setLatch .answer
        | .hangup => u.setLatch .hangup
        | .floor => u.requestFloor s.own
        | .yield => u.leaveFloor s.own
      exec (.req k) s = .next (State.linkReact
        { v with sa := { v.sa with promptDue := true } }))

/-- DONE while RUNNING clears the latch of its kind and changes nothing else; with the latch clear it
changes nothing (R157). -/
def Obligations.DoneClearsItsLatchAlone : Prop :=
  ∀ s : State,
    (s.running → exec (.done .answer) s = .next
      { s with cq := { s.cq with latches := { s.cq.latches with answer := false } } }) ∧
    (s.running → exec (.done .hangup) s = .next
      { s with cq := { s.cq with latches := { s.cq.latches with hangup := false } } }) ∧
    (∀ k, s.cq.latches.get k = false → exec (.done k) s = .next s) ∧
    (∀ k, ¬s.running → exec (.done k) s = .next s)

/-- REQUEST_TIMEOUT, FLOOR_GRANT_EXPIRY and FLOOR_VIEW_EXPIRY (R149, R161, R167): a PENDING slot is
IDLE with its late mark set, its toggle kept and TIMEOUT recorded; a grant that ends passes to the
queue's oldest for *G* seconds or leaves the floor empty, with one floor change; a view is cleared.
The timer base has reached the expiry (assumption 2); a stopped timer does not expire. -/
def Obligations.RequestAndFloorTimersExpire : Prop :=
  ∀ s : State,
    (∀ k e, (s.cq.slots.get k).timer = some e → exec (.requestTimeout k) s = .next
      { s with now := max s.now e,
               cq := { s.cq with
                 slots := s.cq.slots.set k ⟨(s.cq.slots.get k).toggle, none, true⟩ },
               cl := { s.cl with outcomes := s.cl.outcomes.set k .timeout,
                                 flags := s.cl.flags ||| BitVec.twoPow 12 8 } }) ∧
    (∀ e, s.cq.grant = some e → s.cq.floorQueue = [] → exec .floorGrantExpiry s = .next
      { s with now := max s.now e, cq := { s.cq with holder := none, grant := none },
               cl := { s.cl with flags := s.cl.flags ||| BitVec.twoPow 12 7 } }) ∧
    (∀ e n rest, s.cq.grant = some e → s.cq.floorQueue = n :: rest →
      exec .floorGrantExpiry s = .next
        { s with now := max s.now e,
                 cq := { s.cq with
                   holder := some n, floorQueue := rest,
                   grant := some (max s.now e + 100000 * s.cfg.grantTime) },
                 cl := { s.cl with flags := s.cl.flags ||| BitVec.twoPow 12 7 } }) ∧
    (∀ v, s.cq.view = some v → exec .floorViewExpiry s = .next
      { s with now := max s.now v.timer, cq := { s.cq with view := none } }) ∧
    (∀ k, (s.cq.slots.get k).timer = none → exec (.requestTimeout k) s = .next s) ∧
    (s.cq.grant = none → exec .floorGrantExpiry s = .next s) ∧
    (s.cq.view = none → exec .floorViewExpiry s = .next s)

/-- STATUS and REPORT_SENT (R170, R172, R173): while RUNNING or HALTED, and with no pair waiting or
being sent, a STATUS and a ROSTER of the state as it stands join the queue one after the other, every
sticky flag is cleared and every last outcome returns to NONE; with a pair on its way, or in LOADING,
nothing happens. A report sent makes room for the next in order. A STATUS formed with nothing being
sent starts at once (assumption 20), and REPORT_SENT with nothing being sent changes nothing
(assumption 9). -/
def Obligations.StatusFormsOnePairInOrder : Prop :=
  ∀ s : State,
    let inPair (r : Report) : Bool := r.kind ≠ .request
    let onItsWay := (∃ r, s.cl.sending = some r ∧ inPair r = true) ∨
      ∃ r ∈ s.cl.waiting, inPair r = true
    let cleared : ControlLine :=
      { s.cl with flags := 0, outcomes := ⟨.nothing, .nothing, .nothing, .nothing⟩ }
    (s.sl.state = .loading → exec .status s = .next s) ∧
    (s.sl.state ≠ .loading → onItsWay → exec .status s = .next s) ∧
    (s.sl.state ≠ .loading → ¬onItsWay → s.cl.sending = none → s.cl.waiting = [] →
      exec .status s = .next
        { s with cl := { cleared with
          sending := some s.statusReport, waiting := [s.rosterReport] } }) ∧
    (s.sl.state ≠ .loading → ¬onItsWay → s.cl.sending ≠ none →
      exec .status s = .next
        { s with cl := { cleared with
          waiting := s.cl.waiting ++ [s.statusReport, s.rosterReport] } }) ∧
    (s.cl.sending = none → exec .reportSent s = .next s) ∧
    (∀ r, s.cl.sending = some r →
      (s.cl.waiting = [] → exec .reportSent s = .next { s with cl := { s.cl with sending := none } }) ∧
      ∀ r' rest, s.cl.waiting = r' :: rest → exec .reportSent s = .next
        { s with cl := { s.cl with sending := some r', waiting := rest } })

/-- The command bytes and UNKNOWN_COMMAND (R169 to R171): a byte names a command exactly as the table
of section 9.1 gives it, each command's own byte names it, and R171's bytes name none; while RUNNING
an unknown byte, or any byte without its stop bit, only raises the unknown-command count, up to 65535;
it is discarded otherwise (in HALTED a STATUS byte without its stop bit too: assumption 22). A term
whose byte names a command and came with its stop bit is no UNKNOWN_COMMAND and is refused
(assumption 10). -/
def Obligations.UnknownBytesOnlyCount : Prop :=
  (∀ b : Byte, commandOfByte b = none ↔
    b.toNat / 16 = 0 ∨ 10 ≤ b.toNat / 16 ∨ (b.toNat / 16 = 7 ∧ 4 ≤ b.toNat % 16) ∨
    (b.toNat / 16 = 8 ∧ 2 ≤ b.toNat % 16) ∨
    (b.toNat / 16 ≠ 7 ∧ b.toNat / 16 ≠ 8 ∧ b.toNat % 16 ≠ 0)) ∧
  (∀ (b : Byte) (c : Instr), commandOfByte b = some c → byteOfCommand c = some b) ∧
  (∀ (b : Byte) (c : Instr), (∀ b' stopBit, c ≠ .unknownCommand b' stopBit) →
    byteOfCommand c = some b → commandOfByte b = some c) ∧
  (∀ (b : Byte) (c : Instr) (s : State), commandOfByte b = some c →
    commandOfLine b true = c ∧
    exec (.unknownCommand b true) s = .refused (.namesACommand b)) ∧
  ∀ (b : Byte) (stopBit : Bool) (s : State), stopBit = false ∨ commandOfByte b = none →
    commandOfLine b stopBit = .unknownCommand b stopBit ∧
    (s.running → exec (.unknownCommand b stopBit) s = .next
      { s with cl := { s.cl with unknownCommands := min 65535 (s.cl.unknownCommands + 1) } }) ∧
    (¬s.running → exec (.unknownCommand b stopBit) s = .next s)

/-! ## Frames on the air -/

/-- The layout of every part of a frame (R14, R15, R18). A frame is its nine header bytes, with kind,
group, station, wearer, status flags, frame sequence, mic score and request field at their places and
the unused bits 0; then the extras where it has them; then the body of its kind, which for a TALK is
the voice section and the call section and for a LEAVE is empty. The bridge extras, a section, the
roster list and the hail body hold their fields at the offsets of R18's table, most significant byte
first, and are as long as their counts say. -/
def Obligations.HeaderIsLaidOut : Prop :=
  (∀ f : Frame, let h := f.header; let b : List Byte := encodeFrame f
    b = b.take 9 ++ (f.extras.elim [] encodeExtras) ++ encodeBody f.body ∧
    b[0]? = some (match h.kind with
      | .talk => (1 : Byte)
      | .presence => 2
      | .hail => 3
      | .leave => 4) ∧
    b[1]? = some (h.group.extractLsb' 8 8) ∧ b[2]? = some (h.group.extractLsb' 0 8) ∧
    b[3]? = some (BitVec.ofNat 8 h.station) ∧ b[4]? = some (BitVec.ofNat 8 h.wearer) ∧
    (∃ fl, b[5]? = some fl ∧ ∀ i, i < 8 → fl.getLsbD i =
      [h.sender.flags.lead, h.sender.flags.muted, h.sender.flags.isolated, h.sender.flags.claim,
       h.sender.flags.active, false, false, false].getD i false) ∧
    b[6]? = some h.seq ∧ b[7]? = some (BitVec.ofNat 8 h.sender.micScore) ∧
    (∃ rf, b[8]? = some rf ∧ ∀ k, rf.getLsbD (reqKindNumber k) = h.sender.toggles.get k ∧
      rf.getLsbD (4 + reqKindNumber k) = h.sender.pending.get k) ∧
    (∀ v c, f.body = .talk v c → encodeBody f.body = encodeSection v ++ encodeSection c) ∧
    (f.body = .leave → encodeBody f.body = [])) ∧
  (∀ x : Extras, let b : List Byte := encodeExtras x
    b.length = 5 + 2 * x.echoes.length ∧
    b[0]? = some (BitVec.ofNat 8 x.holder) ∧ b[1]? = some (BitVec.ofNat 8 x.holderWearer) ∧
    b[2]? = some (BitVec.ofNat 8 (x.remaining / 256)) ∧
    b[3]? = some (BitVec.ofNat 8 x.remaining) ∧
    b[4]? = some (BitVec.ofNat 8 x.echoes.length) ∧
    ∀ j e, x.echoes[j]? = some e → b[5 + 2 * j]? = some (BitVec.ofNat 8 e.station) ∧
      ∃ tg, b[6 + 2 * j]? = some tg ∧ ∀ k, tg.getLsbD (reqKindNumber k) = e.toggles.get k ∧
        tg.getLsbD (4 + reqKindNumber k) = false) ∧
  (∀ x : TalkSection, let b : List Byte := encodeSection x
    b.length = 3 + 67 * x.blocks.length ∧
    b[0]? = some (x.first.extractLsb' 8 8) ∧ b[1]? = some (x.first.extractLsb' 0 8) ∧
    b[2]? = some (BitVec.ofNat 8 x.blocks.length) ∧
    ∀ i a, x.blocks[i]? = some a →
      (∃ fl, b[3 + 67 * i]? = some fl ∧ ∀ k, k < 8 → fl.getLsbD k =
        [a.isStart, a.isEnd].getD k false) ∧
      b[4 + 67 * i]? = some (BitVec.ofNat 8 (a.level / 256)) ∧
      b[5 + 67 * i]? = some (BitVec.ofNat 8 a.level) ∧
      ∀ j, j < 32 → b[6 + 67 * i + 2 * j]? = some ((a.block.sample j).extractLsb' 8 8) ∧
        b[7 + 67 * i + 2 * j]? = some ((a.block.sample j).extractLsb' 0 8)) ∧
  (∀ l : List Nat, let b : List Byte := encodeBody (.presence l)
    b.length = 1 + l.length ∧ b[0]? = some (BitVec.ofNat 8 l.length) ∧
    ∀ j n, l[j]? = some n → b[1 + j]? = some (BitVec.ofNat 8 n)) ∧
  ∀ (code : BitVec 32) (l : List Nat), let b : List Byte := encodeBody (.hail code l)
    b.length = 5 + l.length ∧
    b[0]? = some (code.extractLsb' 24 8) ∧ b[1]? = some (code.extractLsb' 16 8) ∧
    b[2]? = some (code.extractLsb' 8 8) ∧ b[3]? = some (code.extractLsb' 0 8) ∧
    b[4]? = some (BitVec.ofNat 8 l.length) ∧
    ∀ j n, l[j]? = some n → b[5 + j]? = some (BitVec.ofNat 8 n)

/-- A frame written and read back is the frame (R3, R18), and its length is the one its kind,
extras and counts imply, at most 574 bytes. What the receive filter's second test lets through is
well-formed, and its length is exactly the one its kind, extras and counts imply (R3). Bits that
R3 does not examine do not count: the frame is the one its own bytes would be read as. -/
def Obligations.FramesRoundTripBothWays : Prop :=
  (∀ f : Frame, f.WellFormed →
    parseFrame (encodeFrame f) = some f ∧ (encodeFrame f).length = f.length ∧ f.length ≤ 574) ∧
  (∀ (bytes : List Byte) (f : Frame), parseFrame bytes = some f →
    f.WellFormed ∧ bytes.length = f.length ∧ 9 ≤ bytes.length ∧ bytes.length ≤ 574 ∧
      parseFrame (encodeFrame f) = some f)

/-- Every frame that a station forms is well-formed, of its own station, wearer and group, and never
shows CLAIM with ACTIVE, nor LEAD with ISOLATED (R3, R14, R15, R44, R74). -/
def Obligations.FormedFramesAreWellFormed : Prop :=
  ∀ (s : State) (k : FrameKind), s.Inv → s.running →
    (s.frame k).WellFormed ∧ parseFrame (encodeFrame (s.frame k)) = some (s.frame k) ∧
    (s.frame k).header.station = s.cfg.station ∧ (s.frame k).header.wearer = s.cfg.wearer ∧
    (s.frame k).header.group = s.cfg.group ∧
    ¬((s.frame k).header.sender.flags.lead = true ∧
      (s.frame k).header.sender.flags.isolated = true)

/-- The bridge extras of a TALK or PRESENCE formed while ACTIVE (R155, R163): the holder and its
wearer, 0 with none; the time left on the grant in units of 100 ms, rounded up and at least 1; and one
echo for each ADMITTED entry with last-seen toggles, in the table's order. -/
def Obligations.ExtrasShowFloorAndEchoes : Prop :=
  ∀ s : State,
    (s.cq.holder = none → s.extras.holder = 0 ∧ s.extras.holderWearer = 0 ∧
      s.extras.remaining = 0) ∧
    (∀ n, s.cq.holder = some n → s.extras.holder = n ∧
      (n = s.own → s.extras.holderWearer = s.cfg.wearer) ∧
      (∀ p, n ≠ s.own → s.peer n = some p → s.extras.holderWearer = p.wearer) ∧
      ∀ e, s.cq.grant = some e →
        (s.extras.remaining = 1 ∨ 10000 * (s.extras.remaining - 1) < e - s.now) ∧
        1 ≤ s.extras.remaining ∧ e - s.now ≤ 10000 * s.extras.remaining) ∧
    (∀ e : Echo, e ∈ s.extras.echoes ↔ ∃ p ∈ s.ru.peers, p.state = .admitted ∧
      p.station = e.station ∧ p.lastSeen = some e.toggles) ∧
    (s.RosterOk → s.extras.echoes.Pairwise (fun a b => a.station < b.station))

/-! ## The Receive Queues -/

/-- Placement at and before the window (R80 to R83): an IDLE queue starts on the block; in the
window a held sequence is a duplicate and another is inserted in order; before *next* a PLAYING
queue counts it late, and a PRIMING queue takes it as its new first entry while the span to the
largest held sequence is at most 16, and counts it late otherwise. A block of sequence *s* beyond
the window (R84, R85): with a held entry at or after *s* - 15 the window slides, counting what it
removes; with none the queue is resynchronised on the block alone. Entries compare by the modular
difference of the Conventions. A section's block at position *i* has sequence first + *i* (R16), and
the blocks are placed one after another, a slide or resync of any of them being one of the section
(R78). -/
def Obligations.BlocksArePlacedByOffset : Prop :=
  (∀ (depth : Nat) (q : RxQueue) (e : RxEntry),
    let offset := (e.seq - q.next).toNat
    let late : RxQueue :=
      { q with counts := { q.counts with late := min 65535 (q.counts.late + 1) } }
    (q.mode = .idle → q.place depth e =
      ({ mode := .priming, next := e.seq, primeWait := depth, conceal := 0, lastReal := none,
         entries := [e], counts := q.counts }, false)) ∧
    (q.mode ≠ .idle → offset < 16 → (∃ x ∈ q.entries, x.seq = e.seq) →
      q.place depth e = (q, false)) ∧
    (q.mode ≠ .idle → offset < 16 → (∀ x ∈ q.entries, x.seq ≠ e.seq) → q.Ok →
      ∃ before after, q.entries = before ++ after ∧
        q.place depth e = ({ q with entries := before ++ e :: after }, false) ∧
        (∀ x ∈ before, (x.seq - q.next).toNat < offset) ∧
        ∀ x ∈ after, offset < (x.seq - q.next).toNat) ∧
    (q.mode = .playing → 32768 ≤ offset → q.place depth e = (late, false)) ∧
    (∀ last ∈ q.entries, q.mode = .priming → 32768 ≤ offset → q.Ok →
      (∀ x ∈ q.entries, (x.seq - q.next).toNat ≤ (last.seq - q.next).toNat) →
      ((last.seq - e.seq).toNat + 1 ≤ 16 →
        q.place depth e = ({ q with next := e.seq, entries := e :: q.entries }, false)) ∧
      (16 < (last.seq - e.seq).toNat + 1 → q.place depth e = (late, false)))) ∧
  (∀ (depth : Nat) (q : RxQueue) (e : RxEntry), q.mode ≠ .idle → q.Ok →
    16 ≤ (e.seq - q.next).toNat → (e.seq - q.next).toNat < 32768 →
    let kept := q.entries.filter (fun x => (x.seq - (e.seq - 15)).toNat < 32768)
    let removed := q.entries.length - kept.length
    (kept ≠ [] → q.place depth e =
      ({ q with
         next := e.seq - 15, entries := kept ++ [e]
         counts := { q.counts with slides := min 65535 (q.counts.slides + removed) } },
       decide (0 < removed))) ∧
    (kept = [] → q.place depth e =
      ({ mode := .priming, next := e.seq, primeWait := depth, conceal := 0, lastReal := none,
         entries := [e],
         counts := { q.counts with resyncs := min 65535 (q.counts.resyncs + 1) } }, true))) ∧
  (∀ (first : Seq) (blocks : List AirBlock),
    (numberBlocks first blocks).length = blocks.length ∧
    ∀ i a, blocks[i]? = some a → (numberBlocks first blocks)[i]? =
      some (⟨first + BitVec.ofNat 16 i, a.block, a.level, a.isEnd⟩ : RxEntry)) ∧
  ∀ (depth : Nat) (q : RxQueue), q.placeAll depth [] = (q, false) ∧
    ∀ e rest, let one := q.place depth e; let more := one.1.placeAll depth rest
      q.placeAll depth (e :: rest) = (more.1, one.2 || more.2)

/-- The playout step of any queue (R86 to R91): silence from IDLE, unchanged, and from PRIMING, whose
wait falls until a depth of *D*, a wait of 0 or a held END starts it playing; in PLAYING the entry at
*next* is taken, and an END sends the queue to IDLE or to PRIMING on what is left; a missing one is
concealed by the last real block, fading over three boundaries, and the stream breaks from the eighth
on with nothing held. -/
def Obligations.QueuesPlayOut : Prop :=
  ∀ (depth : Nat) (q : RxQueue),
    let r := q.playStep depth
    let silent : Output := ⟨Block.silence, 0, false⟩
    let ends (counts : QueueCounts) : Prop :=
      r.1.mode = .idle ∧ r.1.entries = [] ∧ r.1.primeWait = 0 ∧ r.1.conceal = 0 ∧
        r.1.lastReal = none ∧ r.1.counts = counts
    (q.mode = .idle → r = (q, silent)) ∧
    (q.mode = .priming → r =
      ({ q with
         primeWait := q.primeWait - 1
         mode := if depth ≤ q.entries.length ∨ q.primeWait ≤ 1 ∨ ∃ e ∈ q.entries, e.isEnd = true
           then .playing else .priming }, silent)) ∧
    (∀ e ∈ q.entries, q.mode = .playing → e.seq = q.next → q.Ok →
      let rest := q.entries.filter (fun x => x.seq ≠ q.next)
      r.2 = ⟨e.block, e.level, true⟩ ∧
      (e.isEnd = false → r.1 =
        { q with entries := rest, next := q.next + 1, conceal := 0,
                 lastReal := some ⟨e.block, e.level⟩ }) ∧
      (e.isEnd = true → rest = [] → ends q.counts) ∧
      (∀ x after, e.isEnd = true → rest = x :: after →
        r.1 = { q with mode := .priming, next := x.seq, primeWait := depth, conceal := 0,
                       lastReal := some ⟨e.block, e.level⟩, entries := rest } ∧
        ∀ y ∈ after, (x.seq - q.next).toNat < (y.seq - q.next).toNat)) ∧
    (q.mode = .playing → (∀ e ∈ q.entries, e.seq ≠ q.next) →
      let k := min 255 (q.conceal + 1)
      let counts := { q.counts with concealed := min 65535 (q.counts.concealed + 1) }
      r.2.level = 0 ∧ r.2.real = false ∧
      (∀ b i, q.lastReal = some b → k ≤ 3 → i < 32 →
        (r.2.block.sample i).toInt = (b.block.sample i).toInt / 2 ^ k) ∧
      (4 ≤ k ∨ q.lastReal = none → r.2.block = Block.silence) ∧
      (k < 8 ∨ q.entries ≠ [] →
        r.1 = { q with next := q.next + 1, conceal := k, counts := counts }) ∧
      (8 ≤ k → q.entries = [] →
        ends { counts with breaks := min 65535 (q.counts.breaks + 1) }))

/-- The downlink queue's step (R93 to R97): out of PLAYING an ordinary step; with no slip pending the
runs measure the depth after the step, and the 250th in a row makes a drop or a repeat pending with a
wait of 64; a pending slip waits for a quiet block at *next* or the end of its wait; a drop takes its
step and skips one sequence more, a repeat outputs without advancing, and either is counted once. A
step that leaves PLAYING clears the slip state uncounted (for a drop's own step: assumption 13). -/
def Obligations.DownlinkSlips : Prop :=
  ∀ (depth quiet : Nat) (d : Downlink), d.queue.Ok → d.SlipOk →
    let p := d.queue.playStep depth
    let r := d.step depth quiet
    let none' : SlipState := ⟨0, 0, none, 0⟩
    let due := d.slip.wait = 1 ∨
      ∃ e ∈ d.queue.entries, e.seq = d.queue.next ∧ e.level < quiet
    (d.queue.mode ≠ .playing → r = ({ d with queue := p.1 }, p.2)) ∧
    (d.queue.mode = .playing →
      (d.slip.pending = none → p.1.mode ≠ .playing →
        r = ({ queue := p.1, slip := none', slips := d.slips }, p.2)) ∧
      (d.slip.pending = none → p.1.mode = .playing →
        let high := if depth + 2 < p.1.entries.length then d.slip.highRun + 1 else 0
        let low := if p.1.entries.length + 1 < depth then d.slip.lowRun + 1 else 0
        r = ({ queue := p.1, slips := d.slips,
               slip := { highRun := high, lowRun := low,
                         pending := if high = 250 then some .drop
                           else if low = 250 then some .repeat else none
                         wait := if high = 250 ∨ low = 250 then 64 else 0 } }, p.2)) ∧
      (d.slip.pending ≠ none → ¬due →
        r = ({ queue := p.1, slips := d.slips,
               slip := if p.1.mode = .playing then { d.slip with wait := d.slip.wait - 1 }
                 else none' }, p.2)) ∧
      (d.slip.pending = some .drop → due →
        (p.1.mode ≠ .playing → r = ({ queue := p.1, slip := none', slips := d.slips }, p.2)) ∧
        (p.1.mode = .playing →
          r = ({ queue := { p.1 with
                   next := p.1.next + 1
                   entries := p.1.entries.filter (fun x => x.seq ≠ p.1.next) },
                 slip := none', slips := min 65535 (d.slips + 1) }, p.2))) ∧
      (d.slip.pending = some .repeat → due →
        (∀ e ∈ d.queue.entries, e.seq = d.queue.next →
          r = ({ queue := { d.queue with lastReal := some ⟨e.block, e.level⟩ },
                 slip := none', slips := min 65535 (d.slips + 1) }, ⟨e.block, e.level, true⟩)) ∧
        ((∀ e ∈ d.queue.entries, e.seq ≠ d.queue.next) →
          r.1 = { queue := d.queue, slip := none', slips := min 65535 (d.slips + 1) } ∧
          (∀ b, d.queue.lastReal = some b → r.2 = ⟨b.block, b.level, true⟩) ∧
          (d.queue.lastReal = none → r.2 = ⟨Block.silence, 0, false⟩))))

/-! ## The mix -/

/-- One mix of one bus (R115, R117 to R123): the duck factor ramps toward its target without passing
it; each product is rounded to nearest and the sum is exact; the limiter rises by its step and falls
at once to what the peak requires; a peak above 32767 is one overload; each output is the sum scaled by
that gain, rounded to nearest, and lies within -32767 .. +32767. -/
def Obligations.OneMixOfOneBus : Prop :=
  ∀ (cfg : Settings) (target : Nat) (srcs : List Source) (b : Bus),
    let r := b.mix cfg target srcs
    let g (src : Source) : Nat :=
      if src.ducked then (src.gain * r.1.duck + 512) / 1024 else src.gain
    let acc (i : Nat) : Int :=
      (srcs.map (fun src => ((src.block.sample i).toInt * g src + 512) / 1024)).sum
    let raised := min 32768 (b.limiter + cfg.limiterRelease)
    (target < b.duck → (r.1.duck : Int) = max (target : Int) (b.duck - cfg.attack)) ∧
    (b.duck < target → r.1.duck = min target (b.duck + cfg.release)) ∧
    (b.duck = target → r.1.duck = target) ∧
    ∃ peak : Nat, (∀ i, i < 32 → (acc i).natAbs ≤ peak) ∧ (∃ i, i < 32 ∧ (acc i).natAbs = peak) ∧
      r.1.limiter = (if 32767 < peak then min raised (1073709056 / peak) else raised) ∧
      r.1.overloads = (if 32767 < peak then min 65535 (b.overloads + 1) else b.overloads) ∧
      ∀ i, i < 32 →
        (r.2.sample i).toInt = (acc i * r.1.limiter + 16384) / 32768 ∧
        -32767 ≤ (r.2.sample i).toInt ∧ (r.2.sample i).toInt ≤ 32767

/-- What the buses are made of (R106 to R109, R111, R113, R114, R116): the ear bus holds the call
port's block while ACTIVE, else the downlink queue's output while a bridge is followed, else no
downlink; one source for each other wearer that has a carrier; the sidetone; and nothing else. The
uplink bus holds one source for each wearer that has a carrier, the own wearer's being the sent block
when there is one; and nothing else. A wearer is spared the duck factor when exempt or holding the
floor; the floor holder's wearer is the own floor's at an ACTIVE bridge and the floor view's
elsewhere; the targets are those of the ducks that are active. Effective gain, product and sum
(R117 to R119) with their bounds: the ear bus has at most 11 sources and the uplink bus at most 10, no
effective gain exceeds 4095, every product lies within -131040 .. 131036, and no accumulator value
exceeds 1441440 on the ear or 1310400 on the uplink. -/
def Obligations.SourcesAndBoundsOfTheBuses : Prop :=
  (∀ (s : State) (m : MixInput),
    let output (w : Nat) : Block := ((s.carrier w).bind (·.queue)).elim Block.silence
      (fun q => (q.playStep s.cfg.depth).2.block)
    let downlink : List Source :=
      if s.bu.state = .active then [⟨m.call, s.cfg.downlinkGain, false⟩]
      else if s.bu.followed = none then []
      else [⟨m.downlink.block, s.cfg.downlinkGain, false⟩]
    (∃ ws : List Nat, ws.Nodup ∧
      (∀ w, w ∈ ws ↔ 1 ≤ w ∧ w ≤ 15 ∧ w ≠ s.cfg.wearer ∧ s.carrier w ≠ none) ∧
      (s.earSources m).Perm (downlink ++
        ws.map (fun w => (⟨output w, (s.cfg.mapEntry w).ear, s.duckApplies w⟩ : Source)) ++
        [(⟨m.sidetone, s.cfg.sidetone, false⟩ : Source)])) ∧
    (∃ ws : List Nat, ws.Nodup ∧
      (∀ w, w ∈ ws ↔ 1 ≤ w ∧ w ≤ 15 ∧
        (s.carrier w ≠ none ∨ (w = s.cfg.wearer ∧ m.sent ≠ none))) ∧
      (s.upSources m).Perm (ws.map (fun w =>
        (⟨if w = s.cfg.wearer then m.sent.getD (output w) else output w,
          (s.cfg.mapEntry w).up, s.duckApplies w⟩ : Source)))) ∧
    (∀ w, s.duckApplies w = true ↔
      (s.cfg.mapEntry w).exempt = false ∧ s.floorWearer ≠ some w) ∧
    (s.bu.state = .active →
      (s.cq.holder = none → s.floorWearer = none) ∧
      (s.cq.holder = some s.own → s.floorWearer = some s.cfg.wearer) ∧
      ∀ n p, s.cq.holder = some n → n ≠ s.own → s.peer n = some p →
        s.floorWearer = some p.wearer) ∧
    (s.bu.state ≠ .active → s.floorWearer = s.cq.view.map (·.wearer)) ∧
    (∀ callDuck : Bool, s.earTarget callDuck =
      min (if callDuck then s.cfg.callTarget else 1024)
        (if s.floorWearer = none then 1024 else s.cfg.floorTarget)) ∧
    (s.upTarget = if s.floorWearer = none then 1024 else s.cfg.floorTarget)) ∧
  ((∀ (src : Source) (d : Nat), src.effective d =
      if src.ducked then (src.gain * d + 512) / 1024 else src.gain) ∧
  (∀ (x : Sample) (g : Nat), mixProduct x g = (x.toInt * g + 512) / 1024 ∧
    (g ≤ 4095 → -131040 ≤ mixProduct x g ∧ mixProduct x g ≤ 131036)) ∧
  (∀ (d : Nat) (srcs : List Source) (i : Nat), mixAcc d srcs i =
    (srcs.map (fun src => mixProduct (src.block.sample i) (src.effective d))).sum) ∧
  ∀ (s : State) (m : MixInput), s.cfg.InRange → s.RosterOk →
    (s.earSources m).length ≤ 11 ∧ (s.upSources m).length ≤ 10 ∧
    ∀ d, d ≤ 1024 →
      (∀ src ∈ s.earSources m ++ s.upSources m, src.effective d ≤ 4095) ∧
      ∀ i, (mixAcc d (s.earSources m) i).natAbs ≤ 1441440 ∧
        (mixAcc d (s.upSources m) i).natAbs ≤ 1310400)

/-- The two promises of the mix (R106, R107): at the far end nothing of the downlink is heard, so what
a boundary hands the call port and keeps of the uplink bus does not depend on the call port's block or
the downlink queue; and no queue of a peer of the own wearer reaches the ear. -/
def Obligations.BusesKeepTheirSourcesApart : Prop :=
  (∀ (s t t' : State) (mic call call' : Block) (d : Downlink),
    exec (.blockBoundary mic call) s = .next t →
    exec (.blockBoundary mic call') { s with rq := d } = .next t' →
    t.ports.callOut = t'.ports.callOut ∧ t.me.up = t'.me.up) ∧
  ∀ (s t t' : State) (mic call : Block) (q : Peer → Option RxQueue),
    exec (.blockBoundary mic call) s = .next t →
    exec (.blockBoundary mic call)
      { s with ru := { s.ru with peers := s.ru.peers.map (fun p =>
        if p.wearer = s.cfg.wearer then { p with queue := q p } else p) } } = .next t' →
    t.ports.earOut = t'.ports.earOut ∧ t.me.ear = t'.me.ear ∧ t.me.hold = t'.me.hold

/-! ## Wearers and the bridge -/

/-- The carrier of a wearer (R52): the lowest-numbered entry of that wearer that is ADMITTED or LOST
and shows LEAD; none when no entry does. -/
def Obligations.CarrierIsTheLowestLead : Prop :=
  ∀ (s : State) (w : Nat), s.RosterOk →
    let leads (p : Peer) : Prop := p ∈ s.ru.peers ∧ p.wearer = w ∧
      (p.state = .admitted ∨ p.state = .lost) ∧ p.header.flags.lead = true
    (∀ p, s.carrier w = some p ↔ leads p ∧ ∀ q, leads q → p.station ≤ q.station) ∧
    (s.carrier w = none ↔ ∀ p, ¬leads p)

/-- The followed bridge (R142, R143, R99, R168): the station itself while ACTIVE, else the
lowest-numbered ADMITTED peer that shows ACTIVE, else none. An evaluation that gives another one than
is held takes it, sets BRIDGE_CHANGE, flushes the downlink queue with its counts kept and clears the
floor view; one that gives the same changes nothing. -/
def Obligations.FollowedBridgeIsTheLowestActive : Prop :=
  ∀ s : State, s.RosterOk →
    let shows (p : Peer) : Prop := p ∈ s.ru.peers ∧ p.state = .admitted ∧
      p.header.flags.active = true
    (s.bu.state = .active → s.bridgeInView = some s.own) ∧
    (s.bu.state ≠ .active →
      (∀ n, s.bridgeInView = some n ↔
        (∃ p, shows p ∧ p.station = n) ∧ ∀ q, shows q → n ≤ q.station) ∧
      (s.bridgeInView = none ↔ ∀ p, ¬shows p)) ∧
    (s.bridgeInView = s.bu.followed → s.evaluateFollowed = s) ∧
    (s.bridgeInView ≠ s.bu.followed → s.evaluateFollowed =
      { s with
        bu := { s.bu with followed := s.bridgeInView }
        cl := { s.cl with flags := s.cl.flags ||| BitVec.twoPow 12 5 }
        rq := { queue := RxQueue.cleared s.rq.queue.counts, slip := ⟨0, 0, none, 0⟩,
                slips := s.rq.slips }
        cq := { s.cq with view := none } })

/-- One evaluation of the role (R43, R48 to R51): from STANDBY the station leads at once unless it is
isolated or a mate in M shows LEAD; from LEAD a lower-numbered mate in M that shows LEAD, or one that
outscores the station by more than the margin, sets a step-down pending, which takes effect at once
when the Capture Unit is QUIET; a pending step-down is not set again. -/
def Obligations.RoleIsEvaluated : Prop :=
  ∀ s : State,
    let inM (p : Peer) : Prop := p ∈ s.ru.peers ∧ p.wearer = s.cfg.wearer ∧
      p.state = .admitted ∧ p.header.flags.isolated = false
    let wins (p : Peer) : Prop := inM p ∧
      ((p.header.flags.lead = true ∧ p.station < s.own) ∨
       min 255 (s.cu.avg / 128) * 2 ^ s.cfg.margin < p.header.micScore)
    (s.wl.role = .standby → s.ports.audioReady = true →
      (∀ p, inM p → p.header.flags.lead = false) →
      s.evaluateRole = { s with wl := { s.wl with role := .lead } }) ∧
    (s.wl.role = .standby →
      s.ports.audioReady = false ∨ (∃ p, inM p ∧ p.header.flags.lead = true) →
      s.evaluateRole = s) ∧
    (s.wl.role = .lead → s.wl.stepDown = true ∨ (∀ p, ¬wins p) → s.evaluateRole = s) ∧
    (∀ p, s.wl.role = .lead → s.wl.stepDown = false → wins p →
      (s.cu.spurt = .quiet → s.evaluateRole =
        { s with wl := { s.wl with role := .standby, stepDown := false } }) ∧
      (s.cu.spurt ≠ .quiet → s.evaluateRole =
        { s with wl := { s.wl with stepDown := true } }))

/-- One evaluation of the bridge state (R130, R131, R133, R136 to R138): a lower claimer is an
ADMITTED, lower-numbered peer that shows CLAIM or ACTIVE; with one, CLAIMING and ACTIVE become YIELDED
with BRIDGE_YIELD, ACTIVE with the leaving effects as well; with none, YIELDED claims afresh for 60 ms;
every other case stays. -/
def Obligations.BridgeStateIsEvaluated : Prop :=
  ∀ s : State,
    let lower := ∃ p ∈ s.ru.peers, p.state = .admitted ∧ p.station < s.own ∧
      (p.header.flags.claim = true ∨ p.header.flags.active = true)
    (s.lowerClaimer = true ↔ lower) ∧
    (s.bu.state = .off ∨ ((s.bu.state = .claiming ∨ s.bu.state = .active) ∧ ¬lower) ∨
      (s.bu.state = .yielded ∧ lower) → s.evaluateState = s) ∧
    (s.bu.state = .claiming → lower → s.evaluateState =
      { s with bu := { s.bu with state := .yielded, settle := none },
               cl := { s.cl with flags := s.cl.flags ||| BitVec.twoPow 12 6 } }) ∧
    (s.bu.state = .yielded → ¬lower → s.evaluateState =
      { s with bu := { s.bu with state := .claiming, settle := some (s.now + 6000) } }) ∧
    (s.bu.state = .active → lower → s.evaluateState =
      { s with
        bu := { s.bu with state := .yielded, settle := none }
        sa := { s.sa with queue := s.sa.queue.filter (fun e => e.tag = .voice) }
        ru := { s.ru with peers := s.ru.peers.map (fun p => { p with lastSeen := none }) }
        cq := { s.cq with holder := none, grant := none, floorQueue := [],
                          latches := ⟨false, false⟩ }
        cl := { s.cl with
          outcomes := { s.cl.outcomes with
            answer := if s.cq.latches.answer then .dropped else s.cl.outcomes.answer
            hangup := if s.cq.latches.hangup then .dropped else s.cl.outcomes.hangup }
          flags := s.cl.flags ||| BitVec.twoPow 12 6 |||
            (if s.cq.holder.isSome then BitVec.twoPow 12 7 else 0) |||
            (if s.cq.latches.answer || s.cq.latches.hangup then BitVec.twoPow 12 8 else 0) } })

/-! ## Requests, latches and the floor -/

/-- Extras (R147, R148, R167, R144): those of any station but the followed bridge are not read. From
it, each kind whose echoed toggle equals the slot's settles a PENDING slot with ACCEPTED, or clears the
late mark of an IDLE one with LATE, each with REQ_OUTCOME; and the floor view takes holder, wearer and
time remaining, or is cleared when any of them is 0. -/
def Obligations.ExtrasSettleSlotsAndView : Prop :=
  ∀ (s : State) (n : Nat) (x : Extras),
    (s.bu.followed ≠ some n → s.takeExtras n x = s) ∧
    (s.bu.followed = some n →
      let t := s.takeExtras n x
      let view := if x.holder ≠ 0 ∧ x.holderWearer ≠ 0 ∧ 1 ≤ x.remaining then
          some ⟨x.holder, x.holderWearer, s.now + 10000 * x.remaining⟩ else none
      ((∀ e ∈ x.echoes, e.station ≠ s.own) → t = { s with cq := { s.cq with view := view } }) ∧
      ∀ e, x.echoes.find? (fun e => e.station = s.own) = some e →
        t = { s with cq := { s.cq with slots := t.cq.slots, view := view },
                     cl := { s.cl with outcomes := t.cl.outcomes, flags := t.cl.flags } } ∧
        (∀ k, let sl := s.cq.slots.get k
          (e.toggles.get k ≠ sl.toggle →
            t.cq.slots.get k = sl ∧ t.cl.outcomes.get k = s.cl.outcomes.get k) ∧
          (e.toggles.get k = sl.toggle → sl.timer ≠ none →
            t.cq.slots.get k = { sl with timer := none } ∧ t.cl.outcomes.get k = .accepted) ∧
          (e.toggles.get k = sl.toggle → sl.timer = none → sl.late = true →
            t.cq.slots.get k = { sl with late := false } ∧ t.cl.outcomes.get k = .late) ∧
          (sl.timer = none → sl.late = false →
            t.cq.slots.get k = sl ∧ t.cl.outcomes.get k = s.cl.outcomes.get k)) ∧
        t.cl.flags = s.cl.flags |||
          (if ∃ k ∈ allKinds, e.toggles.get k = (s.cq.slots.get k).toggle ∧
              ((s.cq.slots.get k).timer ≠ none ∨ (s.cq.slots.get k).late = true)
           then BitVec.twoPow 12 8 else 0))

/-- A header at the ACTIVE bridge (R151, R152, R154, R156): a kind is a new request when its pending
bit is set and its toggle differs from the record, or there is no record yet; the record then holds the
header's toggles. Each new ANSWER or HANGUP sets or merges its latch, FLOOR puts the station on the
floor and YIELD, taken after it, takes it off; any new request makes a prompt PRESENCE due. No other
station gains or loses its place. -/
def Obligations.BridgeTakesNewRequests : Prop :=
  ∀ (s : State) (n : Nat) (h : SenderState) (p : Peer), s.RosterOk → s.FloorOk →
    s.peer n = some p →
    let t := s.bridgeHeader n h
    let isNew (k : ReqKind) : Prop := h.pending.get k = true ∧
      ∀ seen, p.lastSeen = some seen → h.toggles.get k ≠ seen.get k
    t.peer n = some { p with lastSeen := some h.toggles } ∧
    (∀ j, j ≠ n → t.peer j = s.peer j) ∧
    (t.sa.promptDue = true ↔ s.sa.promptDue = true ∨ ∃ k, isNew k) ∧
    (∀ l : LatchKind,
      (t.cq.latches.get l = true ↔ s.cq.latches.get l = true ∨ isNew (latchReqKind l)) ∧
      (isNew (latchReqKind l) → s.cq.latches.get l = true →
        t.cq.merges.get l = min 65535 (s.cq.merges.get l + 1)) ∧
      (¬isNew (latchReqKind l) ∨ s.cq.latches.get l = false →
        t.cq.merges.get l = s.cq.merges.get l)) ∧
    (isNew .yield → n ∉ t.onFloor) ∧ (isNew .floor → ¬isNew .yield → n ∈ t.onFloor) ∧
    (¬isNew .floor → ¬isNew .yield →
      t.cq.holder = s.cq.holder ∧ t.cq.floorQueue = s.cq.floorQueue ∧ t.cq.grant = s.cq.grant) ∧
    (∀ j, j ≠ n → (j ∈ t.onFloor ↔ j ∈ s.onFloor)) ∧
    t.cq.slots = s.cq.slots ∧ t.cq.view = s.cq.view ∧ t.cl.outcomes = s.cl.outcomes ∧
    t.bu = s.bu ∧ t.rq = s.rq ∧ t.wl = s.wl ∧ t.cu = s.cu ∧ t.me = s.me ∧ t.lp = s.lp ∧
    t.sl = s.sl ∧ t.now = s.now

/-- A station's FLOOR and YIELD (R158 to R161): the holder's FLOOR restarts its grant, a queued
station's changes nothing, another joins the back of the queue or, with no holder, becomes the
holder; the holder's YIELD passes the floor to the oldest waiting with a grant of *G* or leaves it
empty; a queued station's takes it out; each change of holder sets FLOOR_CHANGE. A request of a
latch kind acted on (R156, R172, R176): a set latch merges it with no report; a clear latch is set
and a REQUEST report of five bytes with the kind and the merge count joins the queue behind the
others, or with four waiting is discarded as a report overflow. -/
def Obligations.FloorAndLatchesAreActedOn : Prop :=
  (∀ (s : State) (n : Nat),
    let ends := s.now + 100000 * s.cfg.grantTime
    let changed := { s.cl with flags := s.cl.flags ||| BitVec.twoPow 12 7 }
    (s.cq.holder = some n → s.requestFloor n =
      { s with cq := { s.cq with grant := some ends } }) ∧
    (s.cq.holder ≠ some n → n ∈ s.cq.floorQueue → s.requestFloor n = s) ∧
    (∀ h, s.cq.holder = some h → h ≠ n → n ∉ s.cq.floorQueue → s.requestFloor n =
      { s with cq := { s.cq with floorQueue := s.cq.floorQueue ++ [n] } }) ∧
    (s.cq.holder = none → n ∉ s.cq.floorQueue → s.requestFloor n =
      { s with cq := { s.cq with holder := some n, grant := some ends }, cl := changed }) ∧
    (s.cq.holder = some n → s.cq.floorQueue = [] → s.leaveFloor n =
      { s with cq := { s.cq with holder := none, grant := none }, cl := changed }) ∧
    (∀ m rest, s.cq.holder = some n → s.cq.floorQueue = m :: rest → s.leaveFloor n =
      { s with cq := { s.cq with holder := some m, grant := some ends, floorQueue := rest },
               cl := changed }) ∧
    (s.cq.holder ≠ some n → s.leaveFloor n =
      { s with cq := { s.cq with floorQueue := s.cq.floorQueue.filter (· ≠ n) } })) ∧
  (∀ (s : State) (k : LatchKind),
    let m := s.cq.merges.get k
    let r : Report :=
      ⟨.request, [3, 3, BitVec.ofNat 8 (latchKindNumber k), BitVec.ofNat 8 (m / 256),
                  BitVec.ofNat 8 m]⟩
    let waiting := (s.cl.waiting.filter (fun r => r.kind = .request)).length
    let set := { s.cq with latches := s.cq.latches.set k true }
    (s.cq.latches.get k = true → s.setLatch k =
      { s with cq := { s.cq with merges := s.cq.merges.set k (min 65535 (m + 1)) } }) ∧
    (s.cq.latches.get k = false → 4 ≤ waiting → s.setLatch k =
      { s with cq := set,
               cl := { s.cl with reportOverflows := min 65535 (s.cl.reportOverflows + 1) } }) ∧
    (s.cq.latches.get k = false → waiting < 4 → (s.cl.sending = none → s.cl.waiting = []) →
      ∃ (first : Option Report) (rest : List Report),
        s.setLatch k = { s with cq := set, cl := { s.cl with sending := first, waiting := rest } } ∧
        first.toList ++ rest = s.cl.sending.toList ++ s.cl.waiting ++ [r] ∧
        (s.cl.sending ≠ none → first = s.cl.sending)))

/-! ## Reports and ATTN -/

/-- ATTN (R178): low in LOADING, high in HALTED, and in RUNNING high exactly while a sticky flag is set
whose mask bit is clear. -/
def Obligations.AttnFollowsTheFlags : Prop :=
  ∀ s : State,
    (s.sl.state = .loading → s.attn = false) ∧ (s.sl.state = .halted → s.attn = true) ∧
    (s.sl.state = .running →
      (s.attn = true ↔ ∃ i, i < 12 ∧ s.cl.flags.getLsbD i = true ∧ s.cl.mask.getLsbD i = false))

/-- The STATUS and the ROSTER (R174, R175): type and length bytes, then every field at its offset,
words most significant byte first, one record of 21 bytes for each entry of the table in its order. -/
def Obligations.ReportsAreLaidOut : Prop :=
  ∀ s : State,
    let b : List Byte := s.statusReport.bytes
    let byteAt (i n : Nat) : Prop := b[i + 2]? = some (BitVec.ofNat 8 n)
    let wordAt (i n : Nat) : Prop := byteAt i (n / 256) ∧ byteAt (i + 1) n
    let bits (l : List Bool) : Nat := (l.zipIdx.map (fun x => x.1.toNat * 2 ^ x.2)).sum
    s.statusReport.kind = .status ∧ b.length = 56 ∧ b[0]? = some 1 ∧ b[1]? = some 54 ∧
    byteAt 0 (match s.sl.state with
      | .loading => 0
      | .running => 1
      | .halted => 2) ∧
    byteAt 1 (match s.sl.fault with
      | .noFault => 0
      | .clamped => 1
      | .format => 2
      | .sum => 3
      | .station => 4
      | .wearer => 5
      | .group => 6) ∧
    byteAt 2 (match s.bu.state with
      | .off => 0
      | .claiming => 1
      | .active => 2
      | .yielded => 3) ∧
    byteAt 3 (s.bu.followed.getD 0) ∧
    byteAt 4 (bits [decide (s.wl.role = .lead), s.wl.stepDown, s.wl.ownMute, s.wearerMute,
      !s.ports.audioReady, s.bu.callFlag, s.ru.window.isSome]) ∧
    wordAt 5 s.cl.flags.toNat ∧
    (∃ o : ReqKind → Nat, wordAt 7 (o .answer + 16 * o .hangup + 256 * o .floor + 4096 * o .yield) ∧
      ∀ k, o k = match s.cl.outcomes.get k with
        | .nothing => 0
        | .accepted => 1
        | .busy => 2
        | .timeout => 3
        | .late => 4
        | .dropped => 5) ∧
    byteAt 9 (bits [s.cq.latches.answer, s.cq.latches.hangup]) ∧
    byteAt 10 ((if s.bu.state = .active then s.cq.holder
      else s.cq.view.map (·.station)).getD 0) ∧
    byteAt 11 (s.floorWearer.getD 0) ∧ byteAt 12 s.ru.peers.length ∧
    byteAt 13 s.ru.departed.length ∧
    byteAt 14 (match s.rq.queue.mode with
      | .idle => 0
      | .priming => 1
      | .playing => 2) ∧
    byteAt 15 s.rq.queue.entries.length ∧
    (∀ i n, [s.lp.framesSent, s.lp.checkFailures, s.lp.foreignFrames, s.lp.numberClashes,
        s.ru.rosterFull, s.ru.codeMismatch, s.sa.sendDrops, s.me.ear.overloads, s.me.up.overloads,
        s.cl.unknownCommands, s.cl.reportOverflows, s.cq.merges.answer, s.cq.merges.hangup,
        s.rq.queue.counts.late, s.rq.queue.counts.slides, s.rq.queue.counts.resyncs,
        s.rq.queue.counts.concealed, s.rq.queue.counts.breaks, s.rq.slips][i]? = some n →
      wordAt (16 + 2 * i) n) ∧
    let ro : List Byte := s.rosterReport.bytes
    s.rosterReport.kind = .roster ∧ ro.length = 3 + 21 * s.ru.peers.length ∧ ro[0]? = some 2 ∧
    ro[1]? = some (BitVec.ofNat 8 (1 + 21 * s.ru.peers.length)) ∧
    ro[2]? = some (BitVec.ofNat 8 s.ru.peers.length) ∧
    ∀ j p, s.ru.peers[j]? = some p →
      let f := p.header.flags
      let counts := p.queue.elim ⟨0, 0, 0, 0, 0⟩ (·.counts)
      let at' (i n : Nat) : Prop := ro[3 + 21 * j + i]? = some (BitVec.ofNat 8 n)
      at' 0 p.station ∧ at' 1 p.wearer ∧
      at' 2 (match p.state with
        | .hailed => 0
        | .admitted => 1
        | .lost => 2) ∧
      at' 3 (bits [f.lead, f.muted, f.isolated, f.claim, f.active,
        (s.carrier p.wearer).any (fun q => q.station = p.station), p.hailedMe, p.hailMark]) ∧
      at' 4 p.header.micScore ∧
      at' 5 (p.queue.elim 3 (fun q => match q.mode with
        | .idle => 0
        | .priming => 1
        | .playing => 2)) ∧
      at' 6 (p.queue.elim 0 (fun q => q.entries.length)) ∧
      ∀ i n, [p.frames, p.missed, counts.late, counts.slides, counts.resyncs, counts.concealed,
          counts.breaks][i]? = some n → at' (7 + 2 * i) (n / 256) ∧ at' (8 + 2 * i) n

/-! ## The whole machine -/

/-- What may change each of these, RESET apart: the loader, the capture, the mix, the outputs, the
input levels, own mute, the role with its step-down, the call flag, the bridge state with settle timer
and followed bridge, the join window, the departed list, the stations of the peer table, the report
mask, the slots with their toggles, the latches, the merge counts, the floor, the floor view, the last
outcomes, the report queue, the entries of the send queue, and the counts of the Link Port, the Roster
Unit, the Send Assembler and the Control Line. A sticky flag that is set is cleared by RESET and STATUS
alone (R173, R177). No command touches the queue of waiting
commands, and no command but RESET moves the timer base back. -/
def Obligations.CommandsKeepToTheirBlocks : Prop :=
  (∀ (c : Instr) (s t : State), exec c s = .next t → c ≠ .reset →
    (c ≠ .resetRelease → (∀ img, c ≠ .loadingComplete img) → t.sl = s.sl) ∧
    (c ≠ .resetRelease → t.ports.resetHeld = s.ports.resetHeld) ∧
    (c ≠ .audioReadyFall → c ≠ .audioReadyRise → t.ports.audioReady = s.ports.audioReady) ∧
    (c ≠ .mediumBusy → c ≠ .mediumIdle → t.ports.mediumBusy = s.ports.mediumBusy) ∧
    ((∀ m d, c ≠ .blockBoundary m d) →
      t.ports.earOut = s.ports.earOut ∧ t.ports.callOut = s.ports.callOut ∧
      (c ≠ .audioReadyFall → c ≠ .audioReadyRise → t.cu = s.cu) ∧
      (c ≠ .audioReadyRise → c ≠ .settleExpiry → t.me = s.me)) ∧
    (c ≠ .muteOn → c ≠ .muteOff → t.wl.ownMute = s.wl.ownMute) ∧
    (c ≠ .callOn → c ≠ .callOff → t.bu.callFlag = s.bu.callFlag) ∧
    (c ≠ .join → c ≠ .leave → c ≠ .joinWindowExpiry → t.ru.window = s.ru.window) ∧
    ((∀ img, c ≠ .loadingComplete img) → t.cl.mask = s.cl.mask) ∧
    ((∀ b stop, c ≠ .unknownCommand b stop) → t.cl.unknownCommands = s.cl.unknownCommands) ∧
    ((∀ k, c ≠ .req k) → ∀ k, (t.cq.slots.get k).toggle = (s.cq.slots.get k).toggle) ∧
    (c ≠ .sendDone → t.lp.framesSent = s.lp.framesSent) ∧
    ((∀ b v, c ≠ .frameArrival b v) →
      t.lp.checkFailures = s.lp.checkFailures ∧ t.lp.foreignFrames = s.lp.foreignFrames ∧
      t.lp.numberClashes = s.lp.numberClashes ∧ t.ru.rosterFull = s.ru.rosterFull ∧
      t.ru.codeMismatch = s.ru.codeMismatch) ∧
    (c ≠ .status → ∀ f : Sticky, s.flag f = true → t.flag f = true) ∧
    let arrival := ∃ b v, c = .frameArrival b v
    let boundary := ∃ m d, c = .blockBoundary m d
    let notice := ∃ n, c = .peerLossExpiry n ∨ c = .lostRemovalExpiry n
    let audio := c = .audioReadyFall ∨ c = .audioReadyRise
    let call := c = .callOn ∨ c = .callOff ∨ c = .settleExpiry
    let request := ∃ k, c = .req k
    let termEnd := notice ∨ c = .audioReadyFall ∨ c = .callOff
    (¬(arrival ∨ boundary ∨ notice ∨ audio ∨ c = .leave) →
      t.wl.role = s.wl.role ∧ t.wl.stepDown = s.wl.stepDown) ∧
    (¬(arrival ∨ notice ∨ audio ∨ call ∨ c = .leave) → t.bu = s.bu) ∧
    (¬(arrival ∨ c = .join ∨ c = .leave ∨ ∃ n, c = .departedHoldExpiry n) →
      t.ru.departed = s.ru.departed) ∧
    (¬(arrival ∨ c = .leave ∨ ∃ n, c = .lostRemovalExpiry n ∨ c = .hailedExpiry n) →
      t.ru.peers.map (·.station) = s.ru.peers.map (·.station)) ∧
    (¬(arrival ∨ request ∨ c = .settleExpiry ∨ c = .leave ∨ ∃ k, c = .requestTimeout k) →
      t.cq.slots = s.cq.slots) ∧
    (¬(arrival ∨ request ∨ c = .settleExpiry ∨ termEnd ∨ ∃ k, c = .done k) →
      t.cq.latches = s.cq.latches) ∧
    (¬(arrival ∨ request ∨ c = .settleExpiry) →
      t.cq.merges = s.cq.merges ∧ t.cl.reportOverflows = s.cl.reportOverflows) ∧
    (¬(arrival ∨ request ∨ c = .settleExpiry ∨ termEnd ∨ c = .leave ∨ c = .floorGrantExpiry) →
      t.cq.holder = s.cq.holder ∧ t.cq.grant = s.cq.grant ∧ t.cq.floorQueue = s.cq.floorQueue) ∧
    (¬(arrival ∨ notice ∨ audio ∨ call ∨ c = .leave ∨ c = .floorViewExpiry) →
      t.cq.view = s.cq.view) ∧
    (¬(arrival ∨ request ∨ c = .settleExpiry ∨ termEnd ∨ c = .status ∨ ∃ k, c = .requestTimeout k) →
      t.cl.outcomes = s.cl.outcomes) ∧
    (¬(arrival ∨ request ∨ c = .settleExpiry ∨ c = .status ∨ c = .reportSent) →
      t.cl.sending = s.cl.sending ∧ t.cl.waiting = s.cl.waiting) ∧
    (¬boundary → t.sa.queue.Sublist s.sa.queue ∧ t.sa.sendDrops = s.sa.sendDrops)) ∧
  (∀ (c : Instr) (s t : State), exec c s = .next t →
    t.pending = s.pending ∧ (c ≠ .reset → s.now ≤ t.now))

/-- The machine right after reset keeps every agreement that a step keeps. -/
def Obligations.ResetMeetsTheInvariant : Prop := State.reset.Inv

/-- Every step keeps the tables and queues of the receiving side: settings in range and every block at
rest before RUNNING (R180, R184), the peer table and the departed list (R19, R20, R40), and every
receive queue with its window, counts and slip state (R76, R77, R97, R103). -/
def Obligations.StepKeepsRosterAndQueues : Prop :=
  ∀ s t : State, s.Inv → step s = .next t →
    t.SettingsOk ∧ t.AtRest ∧ t.RosterOk ∧ t.QueuesOk

/-- Every step keeps the sending side: the spurt and the role (R44, R51, R59), the send queue (R65 to
R67), what is due with its timers (R69, R70), the Link Port's record (R5 to R12), and that it is IDLE
only with no frame due and in DEFER only with one (R6, R9, R11). That the promotion timer runs exactly
while a PRESENCE is scheduled rests on assumption 14, and the last clause on assumption 7. -/
def Obligations.StepKeepsTheSendingSide : Prop :=
  ∀ s t : State, s.Inv → step s = .next t →
    t.CaptureOk ∧ t.RoleOk ∧ t.SendQueueOk ∧ t.DueOk ∧ t.LinkOk ∧ t.WorkConserving

/-- Every step keeps the bridge and the floor: the bridge state agrees with call flag, AUDIO_READY,
settle timer and lower claimers, the followed bridge is R142's (R128 to R143), nothing of a bridge term
stands outside ACTIVE (R151, R156, R164), and the floor holds at most 10 stations, none twice, each the
own one or an ADMITTED peer (R158 to R162). -/
def Obligations.StepKeepsBridgeAndFloor : Prop :=
  ∀ s t : State, s.Inv → step s = .next t → t.BridgeOk ∧ t.TermOk ∧ t.FloorOk

/-- Every step keeps the outputs in bounds: at most one pair and four waiting REQUEST reports, the
ROSTER right behind its STATUS (R172), and nothing waiting while nothing is sent (assumption 20); duck
factors, limiter gains and hold count in their ranges
(R115, R121); and every sample handed to a port within -32767 .. +32767 (R122). -/
def Obligations.StepKeepsReportsAndMix : Prop :=
  ∀ s t : State, s.Inv → step s = .next t → t.ReportsOk ∧ t.MixOk ∧ t.OutputOk
end

