-- ==== Sys2Proof/Laws/State.lean ====
section
/-! SUPPORT. One frame lemma per plain update of the state: the fields that it leaves alone, each
true by rfl. `simp` takes each conjunct as a rewrite rule, so no later proof unfolds an update. -/

namespace Sys2Proof.Machine

/-- Touches only the timer base. -/
@[simp] theorem State.catchUp_frame (s : State) (t : Nat) :
    (s.catchUp t).ports = s.ports ∧ (s.catchUp t).lp = s.lp ∧ (s.catchUp t).sa = s.sa ∧
    (s.catchUp t).cu = s.cu ∧ (s.catchUp t).ru = s.ru ∧ (s.catchUp t).wl = s.wl ∧
    (s.catchUp t).rq = s.rq ∧ (s.catchUp t).me = s.me ∧ (s.catchUp t).bu = s.bu ∧
    (s.catchUp t).cq = s.cq ∧ (s.catchUp t).cl = s.cl ∧ (s.catchUp t).sl = s.sl ∧
    (s.catchUp t).pending = s.pending := by
  exact ⟨rfl, rfl, rfl, rfl, rfl, rfl, rfl, rfl, rfl, rfl, rfl, rfl, rfl⟩

/-- Touches only the Roster Unit. -/
@[simp] theorem State.mapPeer_frame (s : State) (n : Nat) (f : Peer → Peer) :
    (s.mapPeer n f).now = s.now ∧ (s.mapPeer n f).ports = s.ports ∧ (s.mapPeer n f).lp = s.lp ∧
    (s.mapPeer n f).sa = s.sa ∧ (s.mapPeer n f).cu = s.cu ∧ (s.mapPeer n f).wl = s.wl ∧
    (s.mapPeer n f).rq = s.rq ∧ (s.mapPeer n f).me = s.me ∧ (s.mapPeer n f).bu = s.bu ∧
    (s.mapPeer n f).cq = s.cq ∧ (s.mapPeer n f).cl = s.cl ∧ (s.mapPeer n f).sl = s.sl ∧
    (s.mapPeer n f).pending = s.pending := by
  exact ⟨rfl, rfl, rfl, rfl, rfl, rfl, rfl, rfl, rfl, rfl, rfl, rfl, rfl⟩

/-- Touches only the Control Line. -/
@[simp] theorem State.setFlag_frame (s : State) (f : Sticky) :
    (s.setFlag f).now = s.now ∧ (s.setFlag f).ports = s.ports ∧ (s.setFlag f).lp = s.lp ∧
    (s.setFlag f).sa = s.sa ∧ (s.setFlag f).cu = s.cu ∧ (s.setFlag f).ru = s.ru ∧
    (s.setFlag f).wl = s.wl ∧ (s.setFlag f).rq = s.rq ∧ (s.setFlag f).me = s.me ∧
    (s.setFlag f).bu = s.bu ∧ (s.setFlag f).cq = s.cq ∧ (s.setFlag f).sl = s.sl ∧
    (s.setFlag f).pending = s.pending := by
  exact ⟨rfl, rfl, rfl, rfl, rfl, rfl, rfl, rfl, rfl, rfl, rfl, rfl, rfl⟩

/-- Touches only the downlink queue. -/
@[simp] theorem State.flushDownlink_frame (s : State) :
    s.flushDownlink.now = s.now ∧ s.flushDownlink.ports = s.ports ∧ s.flushDownlink.lp = s.lp ∧
    s.flushDownlink.sa = s.sa ∧ s.flushDownlink.cu = s.cu ∧ s.flushDownlink.ru = s.ru ∧
    s.flushDownlink.wl = s.wl ∧ s.flushDownlink.me = s.me ∧ s.flushDownlink.bu = s.bu ∧
    s.flushDownlink.cq = s.cq ∧ s.flushDownlink.cl = s.cl ∧ s.flushDownlink.sl = s.sl ∧
    s.flushDownlink.pending = s.pending := by
  exact ⟨rfl, rfl, rfl, rfl, rfl, rfl, rfl, rfl, rfl, rfl, rfl, rfl, rfl⟩

/-- Touches only the Roster Unit, the downlink queue. -/
@[simp] theorem State.flushAll_frame (s : State) :
    s.flushAll.now = s.now ∧ s.flushAll.ports = s.ports ∧ s.flushAll.lp = s.lp ∧
    s.flushAll.sa = s.sa ∧ s.flushAll.cu = s.cu ∧ s.flushAll.wl = s.wl ∧ s.flushAll.me = s.me ∧
    s.flushAll.bu = s.bu ∧ s.flushAll.cq = s.cq ∧ s.flushAll.cl = s.cl ∧ s.flushAll.sl = s.sl ∧
    s.flushAll.pending = s.pending := by
  exact ⟨rfl, rfl, rfl, rfl, rfl, rfl, rfl, rfl, rfl, rfl, rfl, rfl⟩

/-- Touches only the Mix Engine. -/
@[simp] theorem State.restMix_frame (s : State) :
    s.restMix.now = s.now ∧ s.restMix.ports = s.ports ∧ s.restMix.lp = s.lp ∧ s.restMix.sa = s.sa ∧
    s.restMix.cu = s.cu ∧ s.restMix.ru = s.ru ∧ s.restMix.wl = s.wl ∧ s.restMix.rq = s.rq ∧
    s.restMix.bu = s.bu ∧ s.restMix.cq = s.cq ∧ s.restMix.cl = s.cl ∧ s.restMix.sl = s.sl ∧
    s.restMix.pending = s.pending := by
  exact ⟨rfl, rfl, rfl, rfl, rfl, rfl, rfl, rfl, rfl, rfl, rfl, rfl, rfl⟩

/-- Touches only the Control Line. -/
@[simp] theorem State.record_frame (s : State) (k : ReqKind) (o : ReqOutcome) :
    (s.record k o).now = s.now ∧ (s.record k o).ports = s.ports ∧ (s.record k o).lp = s.lp ∧
    (s.record k o).sa = s.sa ∧ (s.record k o).cu = s.cu ∧ (s.record k o).ru = s.ru ∧
    (s.record k o).wl = s.wl ∧ (s.record k o).rq = s.rq ∧ (s.record k o).me = s.me ∧
    (s.record k o).bu = s.bu ∧ (s.record k o).cq = s.cq ∧ (s.record k o).sl = s.sl ∧
    (s.record k o).pending = s.pending := by
  exact ⟨rfl, rfl, rfl, rfl, rfl, rfl, rfl, rfl, rfl, rfl, rfl, rfl, rfl⟩

/-- Touches only the Call Request Unit. -/
@[simp] theorem State.setSlot_frame (s : State) (k : ReqKind) (sl : Slot) :
    (s.setSlot k sl).now = s.now ∧ (s.setSlot k sl).ports = s.ports ∧ (s.setSlot k sl).lp = s.lp ∧
    (s.setSlot k sl).sa = s.sa ∧ (s.setSlot k sl).cu = s.cu ∧ (s.setSlot k sl).ru = s.ru ∧
    (s.setSlot k sl).wl = s.wl ∧ (s.setSlot k sl).rq = s.rq ∧ (s.setSlot k sl).me = s.me ∧
    (s.setSlot k sl).bu = s.bu ∧ (s.setSlot k sl).cl = s.cl ∧ (s.setSlot k sl).sl = s.sl ∧
    (s.setSlot k sl).pending = s.pending := by
  exact ⟨rfl, rfl, rfl, rfl, rfl, rfl, rfl, rfl, rfl, rfl, rfl, rfl, rfl⟩

/-- Touches only the Send Assembler. -/
@[simp] theorem State.askPresence_frame (s : State) :
    s.askPresence.now = s.now ∧ s.askPresence.ports = s.ports ∧ s.askPresence.lp = s.lp ∧
    s.askPresence.cu = s.cu ∧ s.askPresence.ru = s.ru ∧ s.askPresence.wl = s.wl ∧
    s.askPresence.rq = s.rq ∧ s.askPresence.me = s.me ∧ s.askPresence.bu = s.bu ∧
    s.askPresence.cq = s.cq ∧ s.askPresence.cl = s.cl ∧ s.askPresence.sl = s.sl ∧
    s.askPresence.pending = s.pending := by
  exact ⟨rfl, rfl, rfl, rfl, rfl, rfl, rfl, rfl, rfl, rfl, rfl, rfl, rfl⟩

/-- Touches only the Roster Unit. -/
@[simp] theorem State.seeToggles_frame (s : State) (n : Nat) (t : PerKind Bool) :
    (s.seeToggles n t).now = s.now ∧ (s.seeToggles n t).ports = s.ports ∧
    (s.seeToggles n t).lp = s.lp ∧ (s.seeToggles n t).sa = s.sa ∧ (s.seeToggles n t).cu = s.cu ∧
    (s.seeToggles n t).wl = s.wl ∧ (s.seeToggles n t).rq = s.rq ∧ (s.seeToggles n t).me = s.me ∧
    (s.seeToggles n t).bu = s.bu ∧ (s.seeToggles n t).cq = s.cq ∧ (s.seeToggles n t).cl = s.cl ∧
    (s.seeToggles n t).sl = s.sl ∧ (s.seeToggles n t).pending = s.pending := by
  exact ⟨rfl, rfl, rfl, rfl, rfl, rfl, rfl, rfl, rfl, rfl, rfl, rfl, rfl⟩

/-- Touches only the Call Request Unit. -/
@[simp] theorem State.takeView_frame (s : State) (x : Extras) :
    (s.takeView x).now = s.now ∧ (s.takeView x).ports = s.ports ∧ (s.takeView x).lp = s.lp ∧
    (s.takeView x).sa = s.sa ∧ (s.takeView x).cu = s.cu ∧ (s.takeView x).ru = s.ru ∧
    (s.takeView x).wl = s.wl ∧ (s.takeView x).rq = s.rq ∧ (s.takeView x).me = s.me ∧
    (s.takeView x).bu = s.bu ∧ (s.takeView x).cl = s.cl ∧ (s.takeView x).sl = s.sl ∧
    (s.takeView x).pending = s.pending := by
  exact ⟨rfl, rfl, rfl, rfl, rfl, rfl, rfl, rfl, rfl, rfl, rfl, rfl, rfl⟩

/-- Touches only the Send Assembler. -/
@[simp] theorem State.removeCalls_frame (s : State) :
    s.removeCalls.now = s.now ∧ s.removeCalls.ports = s.ports ∧ s.removeCalls.lp = s.lp ∧
    s.removeCalls.cu = s.cu ∧ s.removeCalls.ru = s.ru ∧ s.removeCalls.wl = s.wl ∧
    s.removeCalls.rq = s.rq ∧ s.removeCalls.me = s.me ∧ s.removeCalls.bu = s.bu ∧
    s.removeCalls.cq = s.cq ∧ s.removeCalls.cl = s.cl ∧ s.removeCalls.sl = s.sl ∧
    s.removeCalls.pending = s.pending := by
  exact ⟨rfl, rfl, rfl, rfl, rfl, rfl, rfl, rfl, rfl, rfl, rfl, rfl, rfl⟩

/-- Touches only the Send Assembler. -/
@[simp] theorem State.hailOpen_frame (s : State) :
    s.hailOpen.now = s.now ∧ s.hailOpen.ports = s.ports ∧ s.hailOpen.lp = s.lp ∧
    s.hailOpen.cu = s.cu ∧ s.hailOpen.ru = s.ru ∧ s.hailOpen.wl = s.wl ∧ s.hailOpen.rq = s.rq ∧
    s.hailOpen.me = s.me ∧ s.hailOpen.bu = s.bu ∧ s.hailOpen.cq = s.cq ∧ s.hailOpen.cl = s.cl ∧
    s.hailOpen.sl = s.sl ∧ s.hailOpen.pending = s.pending := by
  exact ⟨rfl, rfl, rfl, rfl, rfl, rfl, rfl, rfl, rfl, rfl, rfl, rfl, rfl⟩

/-- Touches only the Send Assembler. -/
@[simp] theorem State.hailClose_frame (s : State) :
    s.hailClose.now = s.now ∧ s.hailClose.ports = s.ports ∧ s.hailClose.lp = s.lp ∧
    s.hailClose.cu = s.cu ∧ s.hailClose.ru = s.ru ∧ s.hailClose.wl = s.wl ∧ s.hailClose.rq = s.rq ∧
    s.hailClose.me = s.me ∧ s.hailClose.bu = s.bu ∧ s.hailClose.cq = s.cq ∧ s.hailClose.cl = s.cl ∧
    s.hailClose.sl = s.sl ∧ s.hailClose.pending = s.pending := by
  exact ⟨rfl, rfl, rfl, rfl, rfl, rfl, rfl, rfl, rfl, rfl, rfl, rfl, rfl⟩

/-- Touches only the Bridge Unit, the Control Line. -/
@[simp] theorem State.enterYielded_frame (s : State) :
    s.enterYielded.now = s.now ∧ s.enterYielded.ports = s.ports ∧ s.enterYielded.lp = s.lp ∧
    s.enterYielded.sa = s.sa ∧ s.enterYielded.cu = s.cu ∧ s.enterYielded.ru = s.ru ∧
    s.enterYielded.wl = s.wl ∧ s.enterYielded.rq = s.rq ∧ s.enterYielded.me = s.me ∧
    s.enterYielded.cq = s.cq ∧ s.enterYielded.sl = s.sl ∧ s.enterYielded.pending = s.pending := by
  exact ⟨rfl, rfl, rfl, rfl, rfl, rfl, rfl, rfl, rfl, rfl, rfl, rfl⟩

/-- Touches only the Link Port. -/
@[simp] theorem State.linkIdle_frame (s : State) :
    s.linkIdle.now = s.now ∧ s.linkIdle.ports = s.ports ∧ s.linkIdle.sa = s.sa ∧
    s.linkIdle.cu = s.cu ∧ s.linkIdle.ru = s.ru ∧ s.linkIdle.wl = s.wl ∧ s.linkIdle.rq = s.rq ∧
    s.linkIdle.me = s.me ∧ s.linkIdle.bu = s.bu ∧ s.linkIdle.cq = s.cq ∧ s.linkIdle.cl = s.cl ∧
    s.linkIdle.sl = s.sl ∧ s.linkIdle.pending = s.pending := by
  exact ⟨rfl, rfl, rfl, rfl, rfl, rfl, rfl, rfl, rfl, rfl, rfl, rfl, rfl⟩

/-- Touches only the Link Port. -/
@[simp] theorem State.deferAccess_frame (s : State) :
    s.deferAccess.now = s.now ∧ s.deferAccess.ports = s.ports ∧ s.deferAccess.sa = s.sa ∧
    s.deferAccess.cu = s.cu ∧ s.deferAccess.ru = s.ru ∧ s.deferAccess.wl = s.wl ∧
    s.deferAccess.rq = s.rq ∧ s.deferAccess.me = s.me ∧ s.deferAccess.bu = s.bu ∧
    s.deferAccess.cq = s.cq ∧ s.deferAccess.cl = s.cl ∧ s.deferAccess.sl = s.sl ∧
    s.deferAccess.pending = s.pending := by
  exact ⟨rfl, rfl, rfl, rfl, rfl, rfl, rfl, rfl, rfl, rfl, rfl, rfl, rfl⟩

/-- Touches only the Roster Unit. -/
@[simp] theorem State.addPeer_frame (s : State) (p : Peer) :
    (s.addPeer p).now = s.now ∧ (s.addPeer p).ports = s.ports ∧ (s.addPeer p).lp = s.lp ∧
    (s.addPeer p).sa = s.sa ∧ (s.addPeer p).cu = s.cu ∧ (s.addPeer p).wl = s.wl ∧
    (s.addPeer p).rq = s.rq ∧ (s.addPeer p).me = s.me ∧ (s.addPeer p).bu = s.bu ∧
    (s.addPeer p).cq = s.cq ∧ (s.addPeer p).cl = s.cl ∧ (s.addPeer p).sl = s.sl ∧
    (s.addPeer p).pending = s.pending := by
  exact ⟨rfl, rfl, rfl, rfl, rfl, rfl, rfl, rfl, rfl, rfl, rfl, rfl, rfl⟩

/-- Touches only the Roster Unit, the Control Line. -/
@[simp] theorem State.tableFull_frame (s : State) :
    s.tableFull.now = s.now ∧ s.tableFull.ports = s.ports ∧ s.tableFull.lp = s.lp ∧
    s.tableFull.sa = s.sa ∧ s.tableFull.cu = s.cu ∧ s.tableFull.wl = s.wl ∧ s.tableFull.rq = s.rq ∧
    s.tableFull.me = s.me ∧ s.tableFull.bu = s.bu ∧ s.tableFull.cq = s.cq ∧ s.tableFull.sl = s.sl ∧
    s.tableFull.pending = s.pending := by
  exact ⟨rfl, rfl, rfl, rfl, rfl, rfl, rfl, rfl, rfl, rfl, rfl, rfl⟩

/-- Touches only the Roster Unit. -/
@[simp] theorem State.undepart_frame (s : State) (n : Nat) :
    (s.undepart n).now = s.now ∧ (s.undepart n).ports = s.ports ∧ (s.undepart n).lp = s.lp ∧
    (s.undepart n).sa = s.sa ∧ (s.undepart n).cu = s.cu ∧ (s.undepart n).wl = s.wl ∧
    (s.undepart n).rq = s.rq ∧ (s.undepart n).me = s.me ∧ (s.undepart n).bu = s.bu ∧
    (s.undepart n).cq = s.cq ∧ (s.undepart n).cl = s.cl ∧ (s.undepart n).sl = s.sl ∧
    (s.undepart n).pending = s.pending := by
  exact ⟨rfl, rfl, rfl, rfl, rfl, rfl, rfl, rfl, rfl, rfl, rfl, rfl, rfl⟩

/-- Touches only the Roster Unit. -/
@[simp] theorem State.depart_frame (s : State) (n : Nat) :
    (s.depart n).now = s.now ∧ (s.depart n).ports = s.ports ∧ (s.depart n).lp = s.lp ∧
    (s.depart n).sa = s.sa ∧ (s.depart n).cu = s.cu ∧ (s.depart n).wl = s.wl ∧
    (s.depart n).rq = s.rq ∧ (s.depart n).me = s.me ∧ (s.depart n).bu = s.bu ∧
    (s.depart n).cq = s.cq ∧ (s.depart n).cl = s.cl ∧ (s.depart n).sl = s.sl ∧
    (s.depart n).pending = s.pending := by
  exact ⟨rfl, rfl, rfl, rfl, rfl, rfl, rfl, rfl, rfl, rfl, rfl, rfl, rfl⟩

/-- Touches only the Roster Unit. -/
@[simp] theorem State.startWindow_frame (s : State) :
    s.startWindow.now = s.now ∧ s.startWindow.ports = s.ports ∧ s.startWindow.lp = s.lp ∧
    s.startWindow.sa = s.sa ∧ s.startWindow.cu = s.cu ∧ s.startWindow.wl = s.wl ∧
    s.startWindow.rq = s.rq ∧ s.startWindow.me = s.me ∧ s.startWindow.bu = s.bu ∧
    s.startWindow.cq = s.cq ∧ s.startWindow.cl = s.cl ∧ s.startWindow.sl = s.sl ∧
    s.startWindow.pending = s.pending := by
  exact ⟨rfl, rfl, rfl, rfl, rfl, rfl, rfl, rfl, rfl, rfl, rfl, rfl, rfl⟩

/-- Touches only the Roster Unit. -/
@[simp] theorem State.freshWindow_frame (s : State) :
    s.freshWindow.now = s.now ∧ s.freshWindow.ports = s.ports ∧ s.freshWindow.lp = s.lp ∧
    s.freshWindow.sa = s.sa ∧ s.freshWindow.cu = s.cu ∧ s.freshWindow.wl = s.wl ∧
    s.freshWindow.rq = s.rq ∧ s.freshWindow.me = s.me ∧ s.freshWindow.bu = s.bu ∧
    s.freshWindow.cq = s.cq ∧ s.freshWindow.cl = s.cl ∧ s.freshWindow.sl = s.sl ∧
    s.freshWindow.pending = s.pending := by
  exact ⟨rfl, rfl, rfl, rfl, rfl, rfl, rfl, rfl, rfl, rfl, rfl, rfl, rfl⟩

/-- Touches only the Send Assembler, the Roster Unit. -/
@[simp] theorem State.closeWindow_frame (s : State) :
    s.closeWindow.now = s.now ∧ s.closeWindow.ports = s.ports ∧ s.closeWindow.lp = s.lp ∧
    s.closeWindow.cu = s.cu ∧ s.closeWindow.wl = s.wl ∧ s.closeWindow.rq = s.rq ∧
    s.closeWindow.me = s.me ∧ s.closeWindow.bu = s.bu ∧ s.closeWindow.cq = s.cq ∧
    s.closeWindow.cl = s.cl ∧ s.closeWindow.sl = s.sl ∧ s.closeWindow.pending = s.pending := by
  exact ⟨rfl, rfl, rfl, rfl, rfl, rfl, rfl, rfl, rfl, rfl, rfl, rfl⟩

/-- Touches only the Link Port. -/
@[simp] theorem State.countCheck_frame (s : State) :
    s.countCheck.now = s.now ∧ s.countCheck.ports = s.ports ∧ s.countCheck.sa = s.sa ∧
    s.countCheck.cu = s.cu ∧ s.countCheck.ru = s.ru ∧ s.countCheck.wl = s.wl ∧
    s.countCheck.rq = s.rq ∧ s.countCheck.me = s.me ∧ s.countCheck.bu = s.bu ∧
    s.countCheck.cq = s.cq ∧ s.countCheck.cl = s.cl ∧ s.countCheck.sl = s.sl ∧
    s.countCheck.pending = s.pending := by
  exact ⟨rfl, rfl, rfl, rfl, rfl, rfl, rfl, rfl, rfl, rfl, rfl, rfl, rfl⟩

/-- Touches only the Capture Unit. -/
@[simp] theorem State.measure_frame (s : State) (mic : Block) :
    (s.measure mic).now = s.now ∧ (s.measure mic).ports = s.ports ∧ (s.measure mic).lp = s.lp ∧
    (s.measure mic).sa = s.sa ∧ (s.measure mic).ru = s.ru ∧ (s.measure mic).wl = s.wl ∧
    (s.measure mic).rq = s.rq ∧ (s.measure mic).me = s.me ∧ (s.measure mic).bu = s.bu ∧
    (s.measure mic).cq = s.cq ∧ (s.measure mic).cl = s.cl ∧ (s.measure mic).sl = s.sl ∧
    (s.measure mic).pending = s.pending := by
  exact ⟨rfl, rfl, rfl, rfl, rfl, rfl, rfl, rfl, rfl, rfl, rfl, rfl, rfl⟩

/-- Touches only the ports. -/
@[simp] theorem State.silentBoundary_frame (s : State) :
    s.silentBoundary.now = s.now ∧ s.silentBoundary.lp = s.lp ∧ s.silentBoundary.sa = s.sa ∧
    s.silentBoundary.cu = s.cu ∧ s.silentBoundary.ru = s.ru ∧ s.silentBoundary.wl = s.wl ∧
    s.silentBoundary.rq = s.rq ∧ s.silentBoundary.me = s.me ∧ s.silentBoundary.bu = s.bu ∧
    s.silentBoundary.cq = s.cq ∧ s.silentBoundary.cl = s.cl ∧ s.silentBoundary.sl = s.sl ∧
    s.silentBoundary.pending = s.pending := by
  exact ⟨rfl, rfl, rfl, rfl, rfl, rfl, rfl, rfl, rfl, rfl, rfl, rfl, rfl⟩

/-- Touches only the ports, the Wearer Logic. -/
@[simp] theorem State.isolate_frame (s : State) :
    s.isolate.now = s.now ∧ s.isolate.lp = s.lp ∧ s.isolate.sa = s.sa ∧ s.isolate.cu = s.cu ∧
    s.isolate.ru = s.ru ∧ s.isolate.rq = s.rq ∧ s.isolate.me = s.me ∧ s.isolate.bu = s.bu ∧
    s.isolate.cq = s.cq ∧ s.isolate.cl = s.cl ∧ s.isolate.sl = s.sl ∧
    s.isolate.pending = s.pending := by
  exact ⟨rfl, rfl, rfl, rfl, rfl, rfl, rfl, rfl, rfl, rfl, rfl, rfl⟩

/-- Touches only the Capture Unit. -/
@[simp] theorem State.cutSpurt_frame (s : State) :
    s.cutSpurt.now = s.now ∧ s.cutSpurt.ports = s.ports ∧ s.cutSpurt.lp = s.lp ∧
    s.cutSpurt.sa = s.sa ∧ s.cutSpurt.ru = s.ru ∧ s.cutSpurt.wl = s.wl ∧ s.cutSpurt.rq = s.rq ∧
    s.cutSpurt.me = s.me ∧ s.cutSpurt.bu = s.bu ∧ s.cutSpurt.cq = s.cq ∧ s.cutSpurt.cl = s.cl ∧
    s.cutSpurt.sl = s.sl ∧ s.cutSpurt.pending = s.pending := by
  exact ⟨rfl, rfl, rfl, rfl, rfl, rfl, rfl, rfl, rfl, rfl, rfl, rfl, rfl⟩

/-- Touches only the Capture Unit. -/
@[simp] theorem State.freshScore_frame (s : State) :
    s.freshScore.now = s.now ∧ s.freshScore.ports = s.ports ∧ s.freshScore.lp = s.lp ∧
    s.freshScore.sa = s.sa ∧ s.freshScore.ru = s.ru ∧ s.freshScore.wl = s.wl ∧
    s.freshScore.rq = s.rq ∧ s.freshScore.me = s.me ∧ s.freshScore.bu = s.bu ∧
    s.freshScore.cq = s.cq ∧ s.freshScore.cl = s.cl ∧ s.freshScore.sl = s.sl ∧
    s.freshScore.pending = s.pending := by
  exact ⟨rfl, rfl, rfl, rfl, rfl, rfl, rfl, rfl, rfl, rfl, rfl, rfl, rfl⟩

/-- Touches only the Send Assembler, the Roster Unit. -/
@[simp] theorem State.leaveRoster_frame (s : State) :
    s.leaveRoster.now = s.now ∧ s.leaveRoster.ports = s.ports ∧ s.leaveRoster.lp = s.lp ∧
    s.leaveRoster.cu = s.cu ∧ s.leaveRoster.wl = s.wl ∧ s.leaveRoster.rq = s.rq ∧
    s.leaveRoster.me = s.me ∧ s.leaveRoster.bu = s.bu ∧ s.leaveRoster.cq = s.cq ∧
    s.leaveRoster.cl = s.cl ∧ s.leaveRoster.sl = s.sl ∧ s.leaveRoster.pending = s.pending := by
  exact ⟨rfl, rfl, rfl, rfl, rfl, rfl, rfl, rfl, rfl, rfl, rfl, rfl⟩

/-- Touches only the Send Assembler. -/
@[simp] theorem State.leaveSend_frame (s : State) :
    s.leaveSend.now = s.now ∧ s.leaveSend.ports = s.ports ∧ s.leaveSend.lp = s.lp ∧
    s.leaveSend.cu = s.cu ∧ s.leaveSend.ru = s.ru ∧ s.leaveSend.wl = s.wl ∧ s.leaveSend.rq = s.rq ∧
    s.leaveSend.me = s.me ∧ s.leaveSend.bu = s.bu ∧ s.leaveSend.cq = s.cq ∧ s.leaveSend.cl = s.cl ∧
    s.leaveSend.sl = s.sl ∧ s.leaveSend.pending = s.pending := by
  exact ⟨rfl, rfl, rfl, rfl, rfl, rfl, rfl, rfl, rfl, rfl, rfl, rfl, rfl⟩

/-! ## What the plain updates set -/

@[simp] theorem State.catchUp_now (s : State) (t : Nat) : (s.catchUp t).now = max s.now t := rfl

@[simp] theorem State.setFlag_flags (s : State) (f : Sticky) :
    (s.setFlag f).cl.flags = s.cl.flags ||| stickyMask f := rfl

/-- Setting a flag keeps the rest of the Control Line. -/
@[simp] theorem State.setFlag_cl (s : State) (f : Sticky) :
    (s.setFlag f).cl.mask = s.cl.mask ∧ (s.setFlag f).cl.outcomes = s.cl.outcomes ∧
    (s.setFlag f).cl.sending = s.cl.sending ∧ (s.setFlag f).cl.waiting = s.cl.waiting ∧
    (s.setFlag f).cl.unknownCommands = s.cl.unknownCommands ∧
    (s.setFlag f).cl.reportOverflows = s.cl.reportOverflows := ⟨rfl, rfl, rfl, rfl, rfl, rfl⟩

@[simp] theorem State.mapPeer_peers (s : State) (n : Nat) (f : Peer → Peer) :
    (s.mapPeer n f).ru.peers = updatePeer n f s.ru.peers := rfl

/-- Changing one entry keeps the rest of the Roster Unit. -/
@[simp] theorem State.mapPeer_ru (s : State) (n : Nat) (f : Peer → Peer) :
    (s.mapPeer n f).ru.departed = s.ru.departed ∧ (s.mapPeer n f).ru.window = s.ru.window ∧
    (s.mapPeer n f).ru.rosterFull = s.ru.rosterFull ∧
    (s.mapPeer n f).ru.codeMismatch = s.ru.codeMismatch := ⟨rfl, rfl, rfl, rfl⟩

@[simp] theorem State.flushDownlink_rq (s : State) : s.flushDownlink.rq = s.rq.flush := rfl

@[simp] theorem State.record_outcomes (s : State) (k : ReqKind) (o : ReqOutcome) :
    (s.record k o).cl.outcomes = s.cl.outcomes.set k o := rfl

@[simp] theorem State.setSlot_slots (s : State) (k : ReqKind) (sl : Slot) :
    (s.setSlot k sl).cq.slots = s.cq.slots.set k sl := rfl

@[simp] theorem State.askPresence_prompt (s : State) : s.askPresence.sa.promptDue = true := rfl

@[simp] theorem State.enterYielded_state (s : State) : s.enterYielded.bu.state = .yielded := rfl

@[simp] theorem State.linkIdle_access (s : State) : s.linkIdle.lp.access = .idle := rfl

@[simp] theorem State.deferAccess_access (s : State) : s.deferAccess.lp.access = .defer := rfl

@[simp] theorem State.isolate_audioReady (s : State) : s.isolate.ports.audioReady = false := rfl

@[simp] theorem PerKind.get_set_same {α : Type} (r : PerKind α) (k : ReqKind) (a : α) :
    (r.set k a).get k = a := by cases k <;> rfl

theorem PerKind.get_set_other {α : Type} (r : PerKind α) {k j : ReqKind} (h : j ≠ k) (a : α) :
    (r.set k a).get j = r.get j := by cases k <;> cases j <;> first | rfl | exact absurd rfl h

@[simp] theorem PerLatch.get_set_same {α : Type} (r : PerLatch α) (k : LatchKind) (a : α) :
    (r.set k a).get k = a := by cases k <;> rfl

end Sys2Proof.Machine
end

