-- ==== Sys2Proof/Laws/Frames.lean ====
section
/-! SUPPORT. One frame lemma per shared operation: the blocks it can touch are the ones its frame
does not list. `simp` takes each conjunct as a rewrite rule. -/

namespace Sys2Proof.Machine

/-- Touches only the Control Line. -/
@[simp] theorem State.setFlagIf_frame (s : State) (c : Bool) (f : Sticky) :
    (s.setFlagIf c f).now = s.now ∧ (s.setFlagIf c f).ports = s.ports ∧
    (s.setFlagIf c f).lp = s.lp ∧ (s.setFlagIf c f).sa = s.sa ∧ (s.setFlagIf c f).cu = s.cu ∧
    (s.setFlagIf c f).ru = s.ru ∧ (s.setFlagIf c f).wl = s.wl ∧ (s.setFlagIf c f).rq = s.rq ∧
    (s.setFlagIf c f).me = s.me ∧ (s.setFlagIf c f).bu = s.bu ∧ (s.setFlagIf c f).cq = s.cq ∧
    (s.setFlagIf c f).sl = s.sl ∧ (s.setFlagIf c f).pending = s.pending := by
  unfold State.setFlagIf; split <;> simp

/-- Touches only the Wearer Logic. -/
@[simp] theorem State.takeLead_frame (s : State) :
    s.takeLead.now = s.now ∧ s.takeLead.ports = s.ports ∧ s.takeLead.lp = s.lp ∧
    s.takeLead.sa = s.sa ∧ s.takeLead.cu = s.cu ∧ s.takeLead.ru = s.ru ∧ s.takeLead.rq = s.rq ∧
    s.takeLead.me = s.me ∧ s.takeLead.bu = s.bu ∧ s.takeLead.cq = s.cq ∧ s.takeLead.cl = s.cl ∧
    s.takeLead.sl = s.sl ∧ s.takeLead.pending = s.pending := by
  unfold State.takeLead; split <;> simp

/-- Touches only the Wearer Logic. -/
@[simp] theorem State.stepDownEffect_frame (s : State) :
    s.stepDownEffect.now = s.now ∧ s.stepDownEffect.ports = s.ports ∧ s.stepDownEffect.lp = s.lp ∧
    s.stepDownEffect.sa = s.sa ∧ s.stepDownEffect.cu = s.cu ∧ s.stepDownEffect.ru = s.ru ∧
    s.stepDownEffect.rq = s.rq ∧ s.stepDownEffect.me = s.me ∧ s.stepDownEffect.bu = s.bu ∧
    s.stepDownEffect.cq = s.cq ∧ s.stepDownEffect.cl = s.cl ∧ s.stepDownEffect.sl = s.sl ∧
    s.stepDownEffect.pending = s.pending := by
  unfold State.stepDownEffect; simp only []; split_ifs <;> simp

/-- Touches only the Wearer Logic. -/
@[simp] theorem State.evaluateRole_frame (s : State) :
    s.evaluateRole.now = s.now ∧ s.evaluateRole.ports = s.ports ∧ s.evaluateRole.lp = s.lp ∧
    s.evaluateRole.sa = s.sa ∧ s.evaluateRole.cu = s.cu ∧ s.evaluateRole.ru = s.ru ∧
    s.evaluateRole.rq = s.rq ∧ s.evaluateRole.me = s.me ∧ s.evaluateRole.bu = s.bu ∧
    s.evaluateRole.cq = s.cq ∧ s.evaluateRole.cl = s.cl ∧ s.evaluateRole.sl = s.sl ∧
    s.evaluateRole.pending = s.pending := by
  unfold State.evaluateRole; split <;> (try split) <;> simp

/-- Touches only the Wearer Logic. -/
@[simp] theorem State.mateEvent_frame (s : State) (m : Bool) :
    (s.mateEvent m).now = s.now ∧ (s.mateEvent m).ports = s.ports ∧ (s.mateEvent m).lp = s.lp ∧
    (s.mateEvent m).sa = s.sa ∧ (s.mateEvent m).cu = s.cu ∧ (s.mateEvent m).ru = s.ru ∧
    (s.mateEvent m).rq = s.rq ∧ (s.mateEvent m).me = s.me ∧ (s.mateEvent m).bu = s.bu ∧
    (s.mateEvent m).cq = s.cq ∧ (s.mateEvent m).cl = s.cl ∧ (s.mateEvent m).sl = s.sl ∧
    (s.mateEvent m).pending = s.pending := by
  unfold State.mateEvent; split <;> simp

/-- Touches only the Roster Unit, the Control Line. -/
@[simp] theorem State.placeVoice_frame (s : State) (n : Nat) (t : TalkSection) :
    (s.placeVoice n t).now = s.now ∧ (s.placeVoice n t).ports = s.ports ∧
    (s.placeVoice n t).lp = s.lp ∧ (s.placeVoice n t).sa = s.sa ∧ (s.placeVoice n t).cu = s.cu ∧
    (s.placeVoice n t).wl = s.wl ∧ (s.placeVoice n t).rq = s.rq ∧ (s.placeVoice n t).me = s.me ∧
    (s.placeVoice n t).bu = s.bu ∧ (s.placeVoice n t).cq = s.cq ∧ (s.placeVoice n t).sl = s.sl ∧
    (s.placeVoice n t).pending = s.pending := by
  unfold State.placeVoice; split <;> simp

/-- Touches only the downlink queue, the Control Line. -/
@[simp] theorem State.placeCall_frame (s : State) (n : Nat) (t : TalkSection) :
    (s.placeCall n t).now = s.now ∧ (s.placeCall n t).ports = s.ports ∧
    (s.placeCall n t).lp = s.lp ∧ (s.placeCall n t).sa = s.sa ∧ (s.placeCall n t).cu = s.cu ∧
    (s.placeCall n t).ru = s.ru ∧ (s.placeCall n t).wl = s.wl ∧ (s.placeCall n t).me = s.me ∧
    (s.placeCall n t).bu = s.bu ∧ (s.placeCall n t).cq = s.cq ∧ (s.placeCall n t).sl = s.sl ∧
    (s.placeCall n t).pending = s.pending := by
  unfold State.placeCall; split <;> simp

/-- Touches only the ports, the Mix Engine. -/
@[simp] theorem State.mixBoundary_frame (s : State) (m : MixInput) :
    (s.mixBoundary m).now = s.now ∧ (s.mixBoundary m).lp = s.lp ∧ (s.mixBoundary m).sa = s.sa ∧
    (s.mixBoundary m).cu = s.cu ∧ (s.mixBoundary m).ru = s.ru ∧ (s.mixBoundary m).wl = s.wl ∧
    (s.mixBoundary m).rq = s.rq ∧ (s.mixBoundary m).bu = s.bu ∧ (s.mixBoundary m).cq = s.cq ∧
    (s.mixBoundary m).cl = s.cl ∧ (s.mixBoundary m).sl = s.sl ∧
    (s.mixBoundary m).pending = s.pending := by
  simp [State.mixBoundary]

/-- Touches only the Control Line. -/
@[simp] theorem State.pushReport_frame (s : State) (r : Report) :
    (s.pushReport r).now = s.now ∧ (s.pushReport r).ports = s.ports ∧ (s.pushReport r).lp = s.lp ∧
    (s.pushReport r).sa = s.sa ∧ (s.pushReport r).cu = s.cu ∧ (s.pushReport r).ru = s.ru ∧
    (s.pushReport r).wl = s.wl ∧ (s.pushReport r).rq = s.rq ∧ (s.pushReport r).me = s.me ∧
    (s.pushReport r).bu = s.bu ∧ (s.pushReport r).cq = s.cq ∧ (s.pushReport r).sl = s.sl ∧
    (s.pushReport r).pending = s.pending := by
  unfold State.pushReport; split <;> simp

/-- Touches only the Control Line. -/
@[simp] theorem State.formRequest_frame (s : State) (k : LatchKind) :
    (s.formRequest k).now = s.now ∧ (s.formRequest k).ports = s.ports ∧
    (s.formRequest k).lp = s.lp ∧ (s.formRequest k).sa = s.sa ∧ (s.formRequest k).cu = s.cu ∧
    (s.formRequest k).ru = s.ru ∧ (s.formRequest k).wl = s.wl ∧ (s.formRequest k).rq = s.rq ∧
    (s.formRequest k).me = s.me ∧ (s.formRequest k).bu = s.bu ∧ (s.formRequest k).cq = s.cq ∧
    (s.formRequest k).sl = s.sl ∧ (s.formRequest k).pending = s.pending := by
  unfold State.formRequest; split <;> simp

/-- Touches only the Control Line. -/
@[simp] theorem State.formPair_frame (s : State) :
    s.formPair.now = s.now ∧ s.formPair.ports = s.ports ∧ s.formPair.lp = s.lp ∧
    s.formPair.sa = s.sa ∧ s.formPair.cu = s.cu ∧ s.formPair.ru = s.ru ∧ s.formPair.wl = s.wl ∧
    s.formPair.rq = s.rq ∧ s.formPair.me = s.me ∧ s.formPair.bu = s.bu ∧ s.formPair.cq = s.cq ∧
    s.formPair.sl = s.sl ∧ s.formPair.pending = s.pending := by
  simp [State.formPair]

/-- Touches only the Call Request Unit, the Control Line. -/
@[simp] theorem State.echoKind_frame (s : State) (k : ReqKind) (b : Bool) :
    (s.echoKind k b).now = s.now ∧ (s.echoKind k b).ports = s.ports ∧ (s.echoKind k b).lp = s.lp ∧
    (s.echoKind k b).sa = s.sa ∧ (s.echoKind k b).cu = s.cu ∧ (s.echoKind k b).ru = s.ru ∧
    (s.echoKind k b).wl = s.wl ∧ (s.echoKind k b).rq = s.rq ∧ (s.echoKind k b).me = s.me ∧
    (s.echoKind k b).bu = s.bu ∧ (s.echoKind k b).sl = s.sl ∧
    (s.echoKind k b).pending = s.pending := by
  unfold State.echoKind; simp only []; split_ifs <;> simp

/-- Touches only the Call Request Unit, the Control Line. -/
@[simp] theorem State.takeEcho_frame (s : State) (t : PerKind Bool) :
    (s.takeEcho t).now = s.now ∧ (s.takeEcho t).ports = s.ports ∧ (s.takeEcho t).lp = s.lp ∧
    (s.takeEcho t).sa = s.sa ∧ (s.takeEcho t).cu = s.cu ∧ (s.takeEcho t).ru = s.ru ∧
    (s.takeEcho t).wl = s.wl ∧ (s.takeEcho t).rq = s.rq ∧ (s.takeEcho t).me = s.me ∧
    (s.takeEcho t).bu = s.bu ∧ (s.takeEcho t).sl = s.sl ∧ (s.takeEcho t).pending = s.pending := by
  simp [State.takeEcho, allKinds]

/-- Touches only the Call Request Unit, the Control Line. -/
@[simp] theorem State.endGrant_frame (s : State) :
    s.endGrant.now = s.now ∧ s.endGrant.ports = s.ports ∧ s.endGrant.lp = s.lp ∧
    s.endGrant.sa = s.sa ∧ s.endGrant.cu = s.cu ∧ s.endGrant.ru = s.ru ∧ s.endGrant.wl = s.wl ∧
    s.endGrant.rq = s.rq ∧ s.endGrant.me = s.me ∧ s.endGrant.bu = s.bu ∧ s.endGrant.sl = s.sl ∧
    s.endGrant.pending = s.pending := by
  unfold State.endGrant; split <;> simp

/-- Touches only the Call Request Unit, the Control Line. -/
@[simp] theorem State.requestFloor_frame (s : State) (n : Nat) :
    (s.requestFloor n).now = s.now ∧ (s.requestFloor n).ports = s.ports ∧
    (s.requestFloor n).lp = s.lp ∧ (s.requestFloor n).sa = s.sa ∧ (s.requestFloor n).cu = s.cu ∧
    (s.requestFloor n).ru = s.ru ∧ (s.requestFloor n).wl = s.wl ∧ (s.requestFloor n).rq = s.rq ∧
    (s.requestFloor n).me = s.me ∧ (s.requestFloor n).bu = s.bu ∧ (s.requestFloor n).sl = s.sl ∧
    (s.requestFloor n).pending = s.pending := by
  unfold State.requestFloor; split_ifs <;> simp

/-- Touches only the Call Request Unit, the Control Line. -/
@[simp] theorem State.leaveFloor_frame (s : State) (n : Nat) :
    (s.leaveFloor n).now = s.now ∧ (s.leaveFloor n).ports = s.ports ∧ (s.leaveFloor n).lp = s.lp ∧
    (s.leaveFloor n).sa = s.sa ∧ (s.leaveFloor n).cu = s.cu ∧ (s.leaveFloor n).ru = s.ru ∧
    (s.leaveFloor n).wl = s.wl ∧ (s.leaveFloor n).rq = s.rq ∧ (s.leaveFloor n).me = s.me ∧
    (s.leaveFloor n).bu = s.bu ∧ (s.leaveFloor n).sl = s.sl ∧
    (s.leaveFloor n).pending = s.pending := by
  unfold State.leaveFloor; split <;> simp

/-- Touches only the Call Request Unit, the Control Line. -/
@[simp] theorem State.setLatch_frame (s : State) (k : LatchKind) :
    (s.setLatch k).now = s.now ∧ (s.setLatch k).ports = s.ports ∧ (s.setLatch k).lp = s.lp ∧
    (s.setLatch k).sa = s.sa ∧ (s.setLatch k).cu = s.cu ∧ (s.setLatch k).ru = s.ru ∧
    (s.setLatch k).wl = s.wl ∧ (s.setLatch k).rq = s.rq ∧ (s.setLatch k).me = s.me ∧
    (s.setLatch k).bu = s.bu ∧ (s.setLatch k).sl = s.sl ∧ (s.setLatch k).pending = s.pending := by
  unfold State.setLatch; split <;> simp

/-- Touches only the Send Assembler, the Call Request Unit, the Control Line. -/
@[simp] theorem State.act_frame (s : State) (k : ReqKind) (n : Nat) :
    (s.act k n).now = s.now ∧ (s.act k n).ports = s.ports ∧ (s.act k n).lp = s.lp ∧
    (s.act k n).cu = s.cu ∧ (s.act k n).ru = s.ru ∧ (s.act k n).wl = s.wl ∧ (s.act k n).rq = s.rq ∧
    (s.act k n).me = s.me ∧ (s.act k n).bu = s.bu ∧ (s.act k n).sl = s.sl ∧
    (s.act k n).pending = s.pending := by
  cases k <;> simp [State.act]

/-- Touches only the Send Assembler, the Call Request Unit, the Control Line. -/
@[simp] theorem State.actAll_frame (s : State) (w : PerKind Bool) (n : Nat) :
    (s.actAll w n).now = s.now ∧ (s.actAll w n).ports = s.ports ∧ (s.actAll w n).lp = s.lp ∧
    (s.actAll w n).cu = s.cu ∧ (s.actAll w n).ru = s.ru ∧ (s.actAll w n).wl = s.wl ∧
    (s.actAll w n).rq = s.rq ∧ (s.actAll w n).me = s.me ∧ (s.actAll w n).bu = s.bu ∧
    (s.actAll w n).sl = s.sl ∧ (s.actAll w n).pending = s.pending := by
  simp only [State.actAll, allKinds, List.foldl]; split_ifs <;> simp

/-- Touches only the Send Assembler, the Roster Unit, the Call Request Unit, the Control Line. -/
@[simp] theorem State.baseline_frame (s : State) (n : Nat) (h : SenderState) :
    (s.baseline n h).now = s.now ∧ (s.baseline n h).ports = s.ports ∧ (s.baseline n h).lp = s.lp ∧
    (s.baseline n h).cu = s.cu ∧ (s.baseline n h).wl = s.wl ∧ (s.baseline n h).rq = s.rq ∧
    (s.baseline n h).me = s.me ∧ (s.baseline n h).bu = s.bu ∧ (s.baseline n h).sl = s.sl ∧
    (s.baseline n h).pending = s.pending := by
  simp [State.baseline]

/-- Touches only the Send Assembler, the Roster Unit, the Call Request Unit, the Control Line. -/
@[simp] theorem State.bridgeHeader_frame (s : State) (n : Nat) (h : SenderState) :
    (s.bridgeHeader n h).now = s.now ∧ (s.bridgeHeader n h).ports = s.ports ∧
    (s.bridgeHeader n h).lp = s.lp ∧ (s.bridgeHeader n h).cu = s.cu ∧
    (s.bridgeHeader n h).wl = s.wl ∧ (s.bridgeHeader n h).rq = s.rq ∧
    (s.bridgeHeader n h).me = s.me ∧ (s.bridgeHeader n h).bu = s.bu ∧
    (s.bridgeHeader n h).sl = s.sl ∧ (s.bridgeHeader n h).pending = s.pending := by
  unfold State.bridgeHeader; split <;> (try split) <;> simp

/-- Touches only the Send Assembler, the Call Request Unit, the Control Line. -/
@[simp] theorem State.ownKind_frame (s : State) (k : ReqKind) :
    (s.ownKind k).now = s.now ∧ (s.ownKind k).ports = s.ports ∧ (s.ownKind k).lp = s.lp ∧
    (s.ownKind k).cu = s.cu ∧ (s.ownKind k).ru = s.ru ∧ (s.ownKind k).wl = s.wl ∧
    (s.ownKind k).rq = s.rq ∧ (s.ownKind k).me = s.me ∧ (s.ownKind k).bu = s.bu ∧
    (s.ownKind k).sl = s.sl ∧ (s.ownKind k).pending = s.pending := by
  unfold State.ownKind; simp only []; split <;> simp

/-- Touches only the Send Assembler, the Call Request Unit, the Control Line. -/
@[simp] theorem State.ownBaseline_frame (s : State) :
    s.ownBaseline.now = s.now ∧ s.ownBaseline.ports = s.ports ∧ s.ownBaseline.lp = s.lp ∧
    s.ownBaseline.cu = s.cu ∧ s.ownBaseline.ru = s.ru ∧ s.ownBaseline.wl = s.wl ∧
    s.ownBaseline.rq = s.rq ∧ s.ownBaseline.me = s.me ∧ s.ownBaseline.bu = s.bu ∧
    s.ownBaseline.sl = s.sl ∧ s.ownBaseline.pending = s.pending := by
  simp [State.ownBaseline, allKinds]

/-- Touches only the Send Assembler, the Roster Unit, the Call Request Unit, the Control Line. -/
@[simp] theorem State.firstLook_frame (s : State) (n : Nat) :
    (s.firstLook n).now = s.now ∧ (s.firstLook n).ports = s.ports ∧ (s.firstLook n).lp = s.lp ∧
    (s.firstLook n).cu = s.cu ∧ (s.firstLook n).wl = s.wl ∧ (s.firstLook n).rq = s.rq ∧
    (s.firstLook n).me = s.me ∧ (s.firstLook n).bu = s.bu ∧ (s.firstLook n).sl = s.sl ∧
    (s.firstLook n).pending = s.pending := by
  unfold State.firstLook; split <;> (try split) <;> simp

/-- A fold of first looks touches only what one look touches. -/
theorem foldl_firstLook_frame (l : List Nat) (s : State) :
    let t := l.foldl State.firstLook s
    t.now = s.now ∧ t.ports = s.ports ∧ t.lp = s.lp ∧
    t.cu = s.cu ∧ t.wl = s.wl ∧ t.rq = s.rq ∧ t.me = s.me ∧
    t.bu = s.bu ∧ t.sl = s.sl ∧ t.pending = s.pending := by
  induction l generalizing s with
  | nil => simp
  | cons n l ih => simpa using ih (s.firstLook n)

/-- Touches only the Send Assembler, the Roster Unit, the Call Request Unit, the Control Line. -/
@[simp] theorem State.firstView_frame (s : State) :
    s.firstView.now = s.now ∧ s.firstView.ports = s.ports ∧ s.firstView.lp = s.lp ∧
    s.firstView.cu = s.cu ∧ s.firstView.wl = s.wl ∧ s.firstView.rq = s.rq ∧ s.firstView.me = s.me ∧
    s.firstView.bu = s.bu ∧ s.firstView.sl = s.sl ∧ s.firstView.pending = s.pending := by
  exact foldl_firstLook_frame _ s

/-- Touches only the Call Request Unit, the Control Line. -/
@[simp] theorem State.dropLatch_frame (s : State) (k : LatchKind) :
    (s.dropLatch k).now = s.now ∧ (s.dropLatch k).ports = s.ports ∧ (s.dropLatch k).lp = s.lp ∧
    (s.dropLatch k).sa = s.sa ∧ (s.dropLatch k).cu = s.cu ∧ (s.dropLatch k).ru = s.ru ∧
    (s.dropLatch k).wl = s.wl ∧ (s.dropLatch k).rq = s.rq ∧ (s.dropLatch k).me = s.me ∧
    (s.dropLatch k).bu = s.bu ∧ (s.dropLatch k).sl = s.sl ∧
    (s.dropLatch k).pending = s.pending := by
  unfold State.dropLatch; split <;> simp

/-- Touches only the Roster Unit, the Call Request Unit, the Control Line. -/
@[simp] theorem State.endTerm_frame (s : State) :
    s.endTerm.now = s.now ∧ s.endTerm.ports = s.ports ∧ s.endTerm.lp = s.lp ∧ s.endTerm.sa = s.sa ∧
    s.endTerm.cu = s.cu ∧ s.endTerm.wl = s.wl ∧ s.endTerm.rq = s.rq ∧ s.endTerm.me = s.me ∧
    s.endTerm.bu = s.bu ∧ s.endTerm.sl = s.sl ∧ s.endTerm.pending = s.pending := by
  simp [State.endTerm]

/-- Touches only the Call Request Unit, the Control Line. -/
@[simp] theorem State.takeExtras_frame (s : State) (n : Nat) (x : Extras) :
    (s.takeExtras n x).now = s.now ∧ (s.takeExtras n x).ports = s.ports ∧
    (s.takeExtras n x).lp = s.lp ∧ (s.takeExtras n x).sa = s.sa ∧ (s.takeExtras n x).cu = s.cu ∧
    (s.takeExtras n x).ru = s.ru ∧ (s.takeExtras n x).wl = s.wl ∧ (s.takeExtras n x).rq = s.rq ∧
    (s.takeExtras n x).me = s.me ∧ (s.takeExtras n x).bu = s.bu ∧ (s.takeExtras n x).sl = s.sl ∧
    (s.takeExtras n x).pending = s.pending := by
  unfold State.takeExtras; split <;> (try split) <;> simp

/-- Touches only the Send Assembler, the Roster Unit, the Call Request Unit, the Control Line. -/
@[simp] theorem State.requestHeader_frame (s : State) (n : Nat) (h : SenderState) (x : Option Extras) :
    (s.requestHeader n h x).now = s.now ∧ (s.requestHeader n h x).ports = s.ports ∧
    (s.requestHeader n h x).lp = s.lp ∧ (s.requestHeader n h x).cu = s.cu ∧
    (s.requestHeader n h x).wl = s.wl ∧ (s.requestHeader n h x).rq = s.rq ∧
    (s.requestHeader n h x).me = s.me ∧ (s.requestHeader n h x).bu = s.bu ∧
    (s.requestHeader n h x).sl = s.sl ∧ (s.requestHeader n h x).pending = s.pending := by
  unfold State.requestHeader; split <;> simp <;> split <;> simp

/-- Touches only the Call Request Unit, the Control Line. -/
@[simp] theorem State.floorNotice_frame (s : State) (n : Nat) :
    (s.floorNotice n).now = s.now ∧ (s.floorNotice n).ports = s.ports ∧
    (s.floorNotice n).lp = s.lp ∧ (s.floorNotice n).sa = s.sa ∧ (s.floorNotice n).cu = s.cu ∧
    (s.floorNotice n).ru = s.ru ∧ (s.floorNotice n).wl = s.wl ∧ (s.floorNotice n).rq = s.rq ∧
    (s.floorNotice n).me = s.me ∧ (s.floorNotice n).bu = s.bu ∧ (s.floorNotice n).sl = s.sl ∧
    (s.floorNotice n).pending = s.pending := by
  unfold State.floorNotice; split <;> simp

/-- Touches only the Call Request Unit, the Control Line. -/
@[simp] theorem State.leaveRequests_frame (s : State) :
    s.leaveRequests.now = s.now ∧ s.leaveRequests.ports = s.ports ∧ s.leaveRequests.lp = s.lp ∧
    s.leaveRequests.sa = s.sa ∧ s.leaveRequests.cu = s.cu ∧ s.leaveRequests.ru = s.ru ∧
    s.leaveRequests.wl = s.wl ∧ s.leaveRequests.rq = s.rq ∧ s.leaveRequests.me = s.me ∧
    s.leaveRequests.bu = s.bu ∧ s.leaveRequests.sl = s.sl ∧
    s.leaveRequests.pending = s.pending := by
  unfold State.leaveRequests; simp only []; split <;> (try split) <;> simp

/-- Touches only the Send Assembler, the Control Line. -/
@[simp] theorem State.countDrops_frame (s : State) (n : Nat) :
    (s.countDrops n).now = s.now ∧ (s.countDrops n).ports = s.ports ∧ (s.countDrops n).lp = s.lp ∧
    (s.countDrops n).cu = s.cu ∧ (s.countDrops n).ru = s.ru ∧ (s.countDrops n).wl = s.wl ∧
    (s.countDrops n).rq = s.rq ∧ (s.countDrops n).me = s.me ∧ (s.countDrops n).bu = s.bu ∧
    (s.countDrops n).cq = s.cq ∧ (s.countDrops n).sl = s.sl ∧
    (s.countDrops n).pending = s.pending := by
  simp [State.countDrops]

/-- Touches only the Send Assembler, the Control Line. -/
@[simp] theorem State.joinQueue_frame (s : State) (e : SendEntry) :
    (s.joinQueue e).now = s.now ∧ (s.joinQueue e).ports = s.ports ∧ (s.joinQueue e).lp = s.lp ∧
    (s.joinQueue e).cu = s.cu ∧ (s.joinQueue e).ru = s.ru ∧ (s.joinQueue e).wl = s.wl ∧
    (s.joinQueue e).rq = s.rq ∧ (s.joinQueue e).me = s.me ∧ (s.joinQueue e).bu = s.bu ∧
    (s.joinQueue e).cq = s.cq ∧ (s.joinQueue e).sl = s.sl ∧
    (s.joinQueue e).pending = s.pending := by
  simp [State.joinQueue]

/-- Touches only the Send Assembler, the Control Line. -/
@[simp] theorem State.ageQueue_frame (s : State) :
    s.ageQueue.now = s.now ∧ s.ageQueue.ports = s.ports ∧ s.ageQueue.lp = s.lp ∧
    s.ageQueue.cu = s.cu ∧ s.ageQueue.ru = s.ru ∧ s.ageQueue.wl = s.wl ∧ s.ageQueue.rq = s.rq ∧
    s.ageQueue.me = s.me ∧ s.ageQueue.bu = s.bu ∧ s.ageQueue.cq = s.cq ∧ s.ageQueue.sl = s.sl ∧
    s.ageQueue.pending = s.pending := by
  simp [State.ageQueue]

/-- Touches only the Send Assembler. -/
@[simp] theorem State.formFrame_frame (s : State) (k : FrameKind) :
    (s.formFrame k).1.now = s.now ∧ (s.formFrame k).1.ports = s.ports ∧
    (s.formFrame k).1.lp = s.lp ∧ (s.formFrame k).1.cu = s.cu ∧ (s.formFrame k).1.ru = s.ru ∧
    (s.formFrame k).1.wl = s.wl ∧ (s.formFrame k).1.rq = s.rq ∧ (s.formFrame k).1.me = s.me ∧
    (s.formFrame k).1.bu = s.bu ∧ (s.formFrame k).1.cq = s.cq ∧ (s.formFrame k).1.cl = s.cl ∧
    (s.formFrame k).1.sl = s.sl ∧ (s.formFrame k).1.pending = s.pending := by
  simp [State.formFrame]

/-- Touches only the downlink queue, the Bridge Unit, the Call Request Unit, the Control Line. -/
@[simp] theorem State.evaluateFollowed_frame (s : State) :
    s.evaluateFollowed.now = s.now ∧ s.evaluateFollowed.ports = s.ports ∧
    s.evaluateFollowed.lp = s.lp ∧ s.evaluateFollowed.sa = s.sa ∧ s.evaluateFollowed.cu = s.cu ∧
    s.evaluateFollowed.ru = s.ru ∧ s.evaluateFollowed.wl = s.wl ∧ s.evaluateFollowed.me = s.me ∧
    s.evaluateFollowed.sl = s.sl ∧ s.evaluateFollowed.pending = s.pending := by
  unfold State.evaluateFollowed; split <;> simp

/-- Touches only the Bridge Unit, the Control Line. -/
@[simp] theorem State.enterClaiming_frame (s : State) :
    s.enterClaiming.now = s.now ∧ s.enterClaiming.ports = s.ports ∧ s.enterClaiming.lp = s.lp ∧
    s.enterClaiming.sa = s.sa ∧ s.enterClaiming.cu = s.cu ∧ s.enterClaiming.ru = s.ru ∧
    s.enterClaiming.wl = s.wl ∧ s.enterClaiming.rq = s.rq ∧ s.enterClaiming.me = s.me ∧
    s.enterClaiming.cq = s.cq ∧ s.enterClaiming.sl = s.sl ∧
    s.enterClaiming.pending = s.pending := by
  unfold State.enterClaiming; simp only []; split <;> simp

/-- Touches only the Send Assembler, the Roster Unit, the Call Request Unit, the Control Line. -/
@[simp] theorem State.leaveActive_frame (s : State) :
    s.leaveActive.now = s.now ∧ s.leaveActive.ports = s.ports ∧ s.leaveActive.lp = s.lp ∧
    s.leaveActive.cu = s.cu ∧ s.leaveActive.wl = s.wl ∧ s.leaveActive.rq = s.rq ∧
    s.leaveActive.me = s.me ∧ s.leaveActive.bu = s.bu ∧ s.leaveActive.sl = s.sl ∧
    s.leaveActive.pending = s.pending := by
  simp [State.leaveActive]

/-- Touches only the Send Assembler, the Roster Unit, the Bridge Unit, the Call Request Unit, the Control Line. -/
@[simp] theorem State.enterOff_frame (s : State) :
    s.enterOff.now = s.now ∧ s.enterOff.ports = s.ports ∧ s.enterOff.lp = s.lp ∧
    s.enterOff.cu = s.cu ∧ s.enterOff.wl = s.wl ∧ s.enterOff.rq = s.rq ∧ s.enterOff.me = s.me ∧
    s.enterOff.sl = s.sl ∧ s.enterOff.pending = s.pending := by
  unfold State.enterOff; simp only []; split <;> simp

/-- Touches only the Send Assembler, the Roster Unit, the downlink queue, the Mix Engine, the Bridge Unit, the Call Request Unit, the Control Line. -/
@[simp] theorem State.enterActive_frame (s : State) :
    s.enterActive.now = s.now ∧ s.enterActive.ports = s.ports ∧ s.enterActive.lp = s.lp ∧
    s.enterActive.cu = s.cu ∧ s.enterActive.wl = s.wl ∧ s.enterActive.sl = s.sl ∧
    s.enterActive.pending = s.pending := by
  simp [State.enterActive]

/-- Touches only the Send Assembler, the Roster Unit, the Bridge Unit, the Call Request Unit, the Control Line. -/
@[simp] theorem State.evaluateState_frame (s : State) :
    s.evaluateState.now = s.now ∧ s.evaluateState.ports = s.ports ∧ s.evaluateState.lp = s.lp ∧
    s.evaluateState.cu = s.cu ∧ s.evaluateState.wl = s.wl ∧ s.evaluateState.rq = s.rq ∧
    s.evaluateState.me = s.me ∧ s.evaluateState.sl = s.sl ∧
    s.evaluateState.pending = s.pending := by
  unfold State.evaluateState; split <;> (try split) <;> simp

/-- Touches only the Send Assembler, the Roster Unit, the downlink queue, the Bridge Unit, the Call Request Unit, the Control Line. -/
@[simp] theorem State.evaluateBridge_frame (s : State) :
    s.evaluateBridge.now = s.now ∧ s.evaluateBridge.ports = s.ports ∧ s.evaluateBridge.lp = s.lp ∧
    s.evaluateBridge.cu = s.cu ∧ s.evaluateBridge.wl = s.wl ∧ s.evaluateBridge.me = s.me ∧
    s.evaluateBridge.sl = s.sl ∧ s.evaluateBridge.pending = s.pending := by
  simp [State.evaluateBridge]

/-- Touches only the ports, the Link Port, the Send Assembler. -/
@[simp] theorem State.ask_frame (s : State) :
    s.ask.now = s.now ∧ s.ask.cu = s.cu ∧ s.ask.ru = s.ru ∧ s.ask.wl = s.wl ∧ s.ask.rq = s.rq ∧
    s.ask.me = s.me ∧ s.ask.bu = s.bu ∧ s.ask.cq = s.cq ∧ s.ask.cl = s.cl ∧ s.ask.sl = s.sl ∧
    s.ask.pending = s.pending := by
  unfold State.ask; split <;> simp

/-- Touches only the ports, the Link Port, the Send Assembler. -/
@[simp] theorem State.accessStart_frame (s : State) :
    s.accessStart.now = s.now ∧ s.accessStart.cu = s.cu ∧ s.accessStart.ru = s.ru ∧
    s.accessStart.wl = s.wl ∧ s.accessStart.rq = s.rq ∧ s.accessStart.me = s.me ∧
    s.accessStart.bu = s.bu ∧ s.accessStart.cq = s.cq ∧ s.accessStart.cl = s.cl ∧
    s.accessStart.sl = s.sl ∧ s.accessStart.pending = s.pending := by
  unfold State.accessStart; split <;> simp

/-- Touches only the ports, the Link Port, the Send Assembler. -/
@[simp] theorem State.linkReact_frame (s : State) :
    s.linkReact.now = s.now ∧ s.linkReact.cu = s.cu ∧ s.linkReact.ru = s.ru ∧
    s.linkReact.wl = s.wl ∧ s.linkReact.rq = s.rq ∧ s.linkReact.me = s.me ∧ s.linkReact.bu = s.bu ∧
    s.linkReact.cq = s.cq ∧ s.linkReact.cl = s.cl ∧ s.linkReact.sl = s.sl ∧
    s.linkReact.pending = s.pending := by
  unfold State.linkReact; split <;> (try split) <;> simp

/-- Touches only the ports, the Link Port, the Send Assembler. -/
@[simp] theorem State.endTurnaround_frame (s : State) (t : Nat) :
    (s.endTurnaround t).now = s.now ∧ (s.endTurnaround t).cu = s.cu ∧
    (s.endTurnaround t).ru = s.ru ∧ (s.endTurnaround t).wl = s.wl ∧ (s.endTurnaround t).rq = s.rq ∧
    (s.endTurnaround t).me = s.me ∧ (s.endTurnaround t).bu = s.bu ∧ (s.endTurnaround t).cq = s.cq ∧
    (s.endTurnaround t).cl = s.cl ∧ (s.endTurnaround t).sl = s.sl ∧
    (s.endTurnaround t).pending = s.pending := by
  simp [State.endTurnaround]

/-- Touches only the Send Assembler, the Roster Unit, the Wearer Logic, the downlink queue, the Bridge Unit, the Call Request Unit, the Control Line. -/
@[simp] theorem State.handHeader_frame (s : State) (f : Frame) (m : Bool) :
    (s.handHeader f m).now = s.now ∧ (s.handHeader f m).ports = s.ports ∧
    (s.handHeader f m).lp = s.lp ∧ (s.handHeader f m).cu = s.cu ∧ (s.handHeader f m).me = s.me ∧
    (s.handHeader f m).sl = s.sl ∧ (s.handHeader f m).pending = s.pending := by
  simp [State.handHeader]

/-- Touches only the Roster Unit, the downlink queue, the Control Line. -/
@[simp] theorem State.handSections_frame (s : State) (f : Frame) :
    (s.handSections f).now = s.now ∧ (s.handSections f).ports = s.ports ∧
    (s.handSections f).lp = s.lp ∧ (s.handSections f).sa = s.sa ∧ (s.handSections f).cu = s.cu ∧
    (s.handSections f).wl = s.wl ∧ (s.handSections f).me = s.me ∧ (s.handSections f).bu = s.bu ∧
    (s.handSections f).cq = s.cq ∧ (s.handSections f).sl = s.sl ∧
    (s.handSections f).pending = s.pending := by
  unfold State.handSections; split <;> simp

/-- Touches only the Send Assembler, the Roster Unit, the Wearer Logic, the downlink queue, the Bridge Unit, the Call Request Unit, the Control Line. -/
@[simp] theorem State.admit_frame (s : State) (f : Frame) :
    (s.admission f).now = s.now ∧ (s.admission f).ports = s.ports ∧ (s.admission f).lp = s.lp ∧
    (s.admission f).cu = s.cu ∧ (s.admission f).me = s.me ∧ (s.admission f).sl = s.sl ∧
    (s.admission f).pending = s.pending := by
  unfold State.admission; simp only []; split <;> simp

/-- Touches only the Send Assembler, the Roster Unit, the Wearer Logic, the downlink queue, the Bridge Unit, the Call Request Unit, the Control Line. -/
@[simp] theorem State.notice_frame (s : State) (n : Nat) (m : Bool) :
    (s.notice n m).now = s.now ∧ (s.notice n m).ports = s.ports ∧ (s.notice n m).lp = s.lp ∧
    (s.notice n m).cu = s.cu ∧ (s.notice n m).me = s.me ∧ (s.notice n m).sl = s.sl ∧
    (s.notice n m).pending = s.pending := by
  simp [State.notice]

/-- Touches only the Send Assembler, the Roster Unit, the Wearer Logic, the downlink queue, the Bridge Unit, the Call Request Unit, the Control Line. -/
@[simp] theorem State.removePeer_frame (s : State) (p : Peer) :
    (s.removePeer p).now = s.now ∧ (s.removePeer p).ports = s.ports ∧ (s.removePeer p).lp = s.lp ∧
    (s.removePeer p).cu = s.cu ∧ (s.removePeer p).me = s.me ∧ (s.removePeer p).sl = s.sl ∧
    (s.removePeer p).pending = s.pending := by
  unfold State.removePeer; simp only []; split <;> simp

/-- Touches only the Send Assembler, the Roster Unit, the Wearer Logic, the downlink queue, the Bridge Unit, the Call Request Unit, the Control Line. -/
@[simp] theorem State.introduceHailed_frame (s : State) (f : Frame) (c : Bool) :
    (s.introduceHailed f c).now = s.now ∧ (s.introduceHailed f c).ports = s.ports ∧
    (s.introduceHailed f c).lp = s.lp ∧ (s.introduceHailed f c).cu = s.cu ∧
    (s.introduceHailed f c).me = s.me ∧ (s.introduceHailed f c).sl = s.sl ∧
    (s.introduceHailed f c).pending = s.pending := by
  unfold State.introduceHailed; simp only []; split <;> simp

/-- Touches only the Send Assembler, the Roster Unit, the Wearer Logic, the downlink queue, the Bridge Unit, the Call Request Unit, the Control Line. -/
@[simp] theorem State.introduceNew_frame (s : State) (f : Frame) :
    (s.introduceNew f).now = s.now ∧ (s.introduceNew f).ports = s.ports ∧
    (s.introduceNew f).lp = s.lp ∧ (s.introduceNew f).cu = s.cu ∧ (s.introduceNew f).me = s.me ∧
    (s.introduceNew f).sl = s.sl ∧ (s.introduceNew f).pending = s.pending := by
  unfold State.introduceNew; split_ifs <;> simp

/-- Touches only the Send Assembler, the Roster Unit, the Wearer Logic, the downlink queue, the Bridge Unit, the Call Request Unit, the Control Line. -/
@[simp] theorem State.pairNew_frame (s : State) (f : Frame) (h : List Nat) :
    (s.pairNew f h).now = s.now ∧ (s.pairNew f h).ports = s.ports ∧ (s.pairNew f h).lp = s.lp ∧
    (s.pairNew f h).cu = s.cu ∧ (s.pairNew f h).me = s.me ∧ (s.pairNew f h).sl = s.sl ∧
    (s.pairNew f h).pending = s.pending := by
  unfold State.pairNew; simp only []; split_ifs <;> simp

/-- Touches only the Send Assembler, the Roster Unit, the Wearer Logic, the downlink queue, the Bridge Unit, the Call Request Unit, the Control Line. -/
@[simp] theorem State.pairHailed_frame (s : State) (f : Frame) (h : List Nat) :
    (s.pairHailed f h).now = s.now ∧ (s.pairHailed f h).ports = s.ports ∧
    (s.pairHailed f h).lp = s.lp ∧ (s.pairHailed f h).cu = s.cu ∧ (s.pairHailed f h).me = s.me ∧
    (s.pairHailed f h).sl = s.sl ∧ (s.pairHailed f h).pending = s.pending := by
  unfold State.pairHailed; simp only []; split_ifs <;> simp

/-- Touches only the Send Assembler, the Roster Unit, the Wearer Logic, the downlink queue, the Bridge Unit, the Call Request Unit, the Control Line. -/
@[simp] theorem State.refreshPeer_frame (s : State) (f : Frame) (p : Peer) :
    (s.refreshPeer f p).now = s.now ∧ (s.refreshPeer f p).ports = s.ports ∧
    (s.refreshPeer f p).lp = s.lp ∧ (s.refreshPeer f p).cu = s.cu ∧ (s.refreshPeer f p).me = s.me ∧
    (s.refreshPeer f p).sl = s.sl ∧ (s.refreshPeer f p).pending = s.pending := by
  simp [State.refreshPeer]

/-- Touches only the Send Assembler, the Roster Unit, the Wearer Logic, the downlink queue, the Bridge Unit, the Call Request Unit, the Control Line. -/
@[simp] theorem State.leaveFrame_frame (s : State) (n : Nat) :
    (s.leaveFrame n).now = s.now ∧ (s.leaveFrame n).ports = s.ports ∧ (s.leaveFrame n).lp = s.lp ∧
    (s.leaveFrame n).cu = s.cu ∧ (s.leaveFrame n).me = s.me ∧ (s.leaveFrame n).sl = s.sl ∧
    (s.leaveFrame n).pending = s.pending := by
  unfold State.leaveFrame; simp only []; split <;> simp

/-- Touches only the Send Assembler, the Roster Unit, the Wearer Logic, the downlink queue, the Bridge Unit, the Call Request Unit, the Control Line. -/
@[simp] theorem State.takeArrival_frame (s : State) (f : Frame) :
    (s.takeArrival f).now = s.now ∧ (s.takeArrival f).ports = s.ports ∧
    (s.takeArrival f).lp = s.lp ∧ (s.takeArrival f).cu = s.cu ∧ (s.takeArrival f).me = s.me ∧
    (s.takeArrival f).sl = s.sl ∧ (s.takeArrival f).pending = s.pending := by
  unfold State.takeArrival; simp only []; split_ifs <;> (try split) <;> (try split_ifs) <;> (try split) <;> simp

/-- Touches only the Link Port, the Send Assembler, the Roster Unit, the Wearer Logic, the downlink queue, the Bridge Unit, the Call Request Unit, the Control Line. -/
@[simp] theorem State.filterFrame_frame (s : State) (b : List Byte) (g : Bool) :
    (s.filterFrame b g).now = s.now ∧ (s.filterFrame b g).ports = s.ports ∧
    (s.filterFrame b g).cu = s.cu ∧ (s.filterFrame b g).me = s.me ∧ (s.filterFrame b g).sl = s.sl ∧
    (s.filterFrame b g).pending = s.pending := by
  unfold State.filterFrame; split <;> (try split) <;> (try split_ifs) <;> simp

/-- Touches only the Capture Unit. -/
@[simp] theorem State.capture_frame (s : State) (mic : Block) :
    (s.capture mic).1.now = s.now ∧ (s.capture mic).1.ports = s.ports ∧
    (s.capture mic).1.lp = s.lp ∧ (s.capture mic).1.sa = s.sa ∧ (s.capture mic).1.ru = s.ru ∧
    (s.capture mic).1.wl = s.wl ∧ (s.capture mic).1.rq = s.rq ∧ (s.capture mic).1.me = s.me ∧
    (s.capture mic).1.bu = s.bu ∧ (s.capture mic).1.cq = s.cq ∧ (s.capture mic).1.cl = s.cl ∧
    (s.capture mic).1.sl = s.sl ∧ (s.capture mic).1.pending = s.pending := by
  unfold State.capture; simp only []; split <;> simp [State.muteSpurt, State.advanceSpurt]

/-- Touches only the Send Assembler, the Control Line. -/
@[simp] theorem State.joinEntries_frame (s : State) (v : Option SendEntry) (c : Block) :
    (s.joinEntries v c).now = s.now ∧ (s.joinEntries v c).ports = s.ports ∧
    (s.joinEntries v c).lp = s.lp ∧ (s.joinEntries v c).cu = s.cu ∧ (s.joinEntries v c).ru = s.ru ∧
    (s.joinEntries v c).wl = s.wl ∧ (s.joinEntries v c).rq = s.rq ∧ (s.joinEntries v c).me = s.me ∧
    (s.joinEntries v c).bu = s.bu ∧ (s.joinEntries v c).cq = s.cq ∧ (s.joinEntries v c).sl = s.sl ∧
    (s.joinEntries v c).pending = s.pending := by
  unfold State.joinEntries; simp only []; split <;> split <;> simp

/-- Touches only the ports, the Roster Unit, the downlink queue, the Mix Engine. -/
@[simp] theorem State.playAndMix_frame (s : State) (mic : Block) (c : Block) (o : Option Block) :
    (s.playAndMix mic c o).now = s.now ∧ (s.playAndMix mic c o).lp = s.lp ∧
    (s.playAndMix mic c o).sa = s.sa ∧ (s.playAndMix mic c o).cu = s.cu ∧
    (s.playAndMix mic c o).wl = s.wl ∧ (s.playAndMix mic c o).bu = s.bu ∧
    (s.playAndMix mic c o).cq = s.cq ∧ (s.playAndMix mic c o).cl = s.cl ∧
    (s.playAndMix mic c o).sl = s.sl ∧ (s.playAndMix mic c o).pending = s.pending := by
  simp [State.playAndMix]

/-- Touches only the ports, the Link Port, the Send Assembler, the Capture Unit, the Roster Unit, the Wearer Logic, the downlink queue, the Mix Engine, the Control Line. -/
@[simp] theorem State.boundary_frame (s : State) (mic : Block) (c : Block) :
    (s.boundary mic c).now = s.now ∧ (s.boundary mic c).bu = s.bu ∧ (s.boundary mic c).cq = s.cq ∧
    (s.boundary mic c).sl = s.sl ∧ (s.boundary mic c).pending = s.pending := by
  simp [State.boundary]

/-- Touches only the ports, the Wearer Logic. -/
@[simp] theorem State.rejoin_frame (s : State) :
    s.rejoin.now = s.now ∧ s.rejoin.lp = s.lp ∧ s.rejoin.sa = s.sa ∧ s.rejoin.cu = s.cu ∧
    s.rejoin.ru = s.ru ∧ s.rejoin.rq = s.rq ∧ s.rejoin.me = s.me ∧ s.rejoin.bu = s.bu ∧
    s.rejoin.cq = s.cq ∧ s.rejoin.cl = s.cl ∧ s.rejoin.sl = s.sl ∧
    s.rejoin.pending = s.pending := by
  simp [State.rejoin]

/-- Touches only the Bridge Unit, the Control Line. -/
@[simp] theorem State.claimAtRise_frame (s : State) :
    s.claimAtRise.now = s.now ∧ s.claimAtRise.ports = s.ports ∧ s.claimAtRise.lp = s.lp ∧
    s.claimAtRise.sa = s.sa ∧ s.claimAtRise.cu = s.cu ∧ s.claimAtRise.ru = s.ru ∧
    s.claimAtRise.wl = s.wl ∧ s.claimAtRise.rq = s.rq ∧ s.claimAtRise.me = s.me ∧
    s.claimAtRise.cq = s.cq ∧ s.claimAtRise.sl = s.sl ∧ s.claimAtRise.pending = s.pending := by
  unfold State.claimAtRise; split <;> simp

/-- Touches only the Call Request Unit, the Control Line. -/
@[simp] theorem State.requestAfar_frame (s : State) (k : ReqKind) :
    (s.requestAfar k).now = s.now ∧ (s.requestAfar k).ports = s.ports ∧
    (s.requestAfar k).lp = s.lp ∧ (s.requestAfar k).sa = s.sa ∧ (s.requestAfar k).cu = s.cu ∧
    (s.requestAfar k).ru = s.ru ∧ (s.requestAfar k).wl = s.wl ∧ (s.requestAfar k).rq = s.rq ∧
    (s.requestAfar k).me = s.me ∧ (s.requestAfar k).bu = s.bu ∧ (s.requestAfar k).sl = s.sl ∧
    (s.requestAfar k).pending = s.pending := by
  unfold State.requestAfar; simp only []; split <;> simp

/-- Touches only the Send Assembler, the Call Request Unit, the Control Line. -/
@[simp] theorem State.requestHere_frame (s : State) (k : ReqKind) :
    (s.requestHere k).now = s.now ∧ (s.requestHere k).ports = s.ports ∧
    (s.requestHere k).lp = s.lp ∧ (s.requestHere k).cu = s.cu ∧ (s.requestHere k).ru = s.ru ∧
    (s.requestHere k).wl = s.wl ∧ (s.requestHere k).rq = s.rq ∧ (s.requestHere k).me = s.me ∧
    (s.requestHere k).bu = s.bu ∧ (s.requestHere k).sl = s.sl ∧
    (s.requestHere k).pending = s.pending := by
  simp [State.requestHere]

/-- Touches only the Control Line, the loader. -/
@[simp] theorem State.halt_frame (s : State) (f : FaultCode) :
    (s.halt f).now = s.now ∧ (s.halt f).ports = s.ports ∧ (s.halt f).lp = s.lp ∧
    (s.halt f).sa = s.sa ∧ (s.halt f).cu = s.cu ∧ (s.halt f).ru = s.ru ∧ (s.halt f).wl = s.wl ∧
    (s.halt f).rq = s.rq ∧ (s.halt f).me = s.me ∧ (s.halt f).bu = s.bu ∧ (s.halt f).cq = s.cq ∧
    (s.halt f).pending = s.pending := by
  simp [State.halt]

/-- Touches only the Link Port, the Send Assembler, the Control Line, the loader. -/
@[simp] theorem State.startRunning_frame (s : State) (img : Image) :
    (s.startRunning img).now = s.now ∧ (s.startRunning img).ports = s.ports ∧
    (s.startRunning img).cu = s.cu ∧ (s.startRunning img).ru = s.ru ∧
    (s.startRunning img).wl = s.wl ∧ (s.startRunning img).rq = s.rq ∧
    (s.startRunning img).me = s.me ∧ (s.startRunning img).bu = s.bu ∧
    (s.startRunning img).cq = s.cq ∧ (s.startRunning img).pending = s.pending := by
  simp [State.startRunning]

end Sys2Proof.Machine
end

