-- ==== Sys2Proof/Laws/HandOn.lean ====
section
/-! SUPPORT. The model's hand-on of a header and its notices are the ones the statements spell
(R23, R38). -/

namespace Sys2Proof.Machine

/-- A header handed on is taken as R23's parts 2 to 4 say, the role being evaluated for an entry that
was a mate or whose frame carries the own wearer (R48). -/
theorem State.handHeader_eq (s : State) (f : Frame) (wasMate : Bool) (mate : Prop) [Decidable mate]
    (h : (wasMate || decide (f.header.wearer = s.cfg.wearer)) = decide mate) :
    s.handHeader f wasMate = s.headerTaken f mate := by
  unfold State.handHeader State.headerTaken State.requestHeader State.mateEvent State.evaluateBridge
  simp only [h]
  by_cases hm : mate <;> simp [hm] <;> cases f.extras <;> simp

/-- A loss or removal notice is taken as R38's table says. -/
theorem State.notice_eq (s : State) (n : Nat) (isMate : Bool) (mate : Prop) [Decidable mate]
    (h : isMate = decide mate) : s.notice n isMate = s.noticeTaken n mate := by
  unfold State.notice State.noticeTaken State.floorNotice State.mateEvent State.evaluateBridge
  subst h
  by_cases hm : mate <;> simp [hm]

end Sys2Proof.Machine
end

