-- ==== Sys2Proof/Laws/Tables.lean ====
section
/-! SUPPORT. Lookups in the peer table and in a receive queue: what is found after an entry is put,
changed or erased, and that a queue holds a sequence number once. -/

namespace Sys2Proof.Machine

/-! ## The peer table -/

theorem findPeer_some {n : Nat} {ps : List Peer} {p : Peer} (h : findPeer n ps = some p) :
    p ∈ ps ∧ p.station = n := by
  unfold findPeer at h
  exact ⟨List.mem_of_find?_eq_some h, by simpa using List.find?_some h⟩

theorem findPeer_none {n : Nat} {ps : List Peer} :
    findPeer n ps = none ↔ ∀ p ∈ ps, p.station ≠ n := by
  simp [findPeer]

/-- In a table by strictly ascending station number the entry of a station is the one found. -/
theorem findPeer_of_mem {ps : List Peer} (h : ps.Pairwise (fun p q => p.station < q.station))
    {p : Peer} (hp : p ∈ ps) : findPeer p.station ps = some p := by
  induction ps with
  | nil => simp at hp
  | cons q qs ih =>
    rw [List.pairwise_cons] at h
    rcases List.mem_cons.1 hp with rfl | hm
    · simp [findPeer]
    · have := h.1 p hm
      have hne : ¬ q.station = p.station := by omega
      simpa [findPeer, hne] using ih h.2 hm

theorem findPeer_updatePeer_ne {n m : Nat} (f : Peer → Peer) (hf : ∀ p, (f p).station = p.station)
    (ps : List Peer) (h : m ≠ n) : findPeer m (updatePeer n f ps) = findPeer m ps := by
  induction ps with
  | nil => rfl
  | cons q qs ih =>
    simp only [findPeer, updatePeer, List.map_cons, List.find?_cons] at ih ⊢
    by_cases hq : q.station = n
    · have hm : ¬ n = m := fun e => h e.symm
      simp [hq, hf, hm, ih]
    · simp [hq, ih]

theorem findPeer_updatePeer_eq {n : Nat} (f : Peer → Peer) (hf : ∀ p, (f p).station = p.station)
    (ps : List Peer) : findPeer n (updatePeer n f ps) = (findPeer n ps).map f := by
  induction ps with
  | nil => rfl
  | cons q qs ih =>
    simp only [findPeer, updatePeer, List.map_cons, List.find?_cons] at ih ⊢
    by_cases hq : q.station = n <;> simp [hq, hf, ih]

theorem findPeer_erasePeer_eq (n : Nat) (ps : List Peer) : findPeer n (erasePeer n ps) = none := by
  simp [findPeer, erasePeer]

theorem mem_insertPeer {p q : Peer} {ps : List Peer} : q ∈ insertPeer p ps ↔ q = p ∨ q ∈ ps := by
  induction ps with
  | nil => simp [insertPeer]
  | cons r rs ih =>
    unfold insertPeer
    split <;> simp [ih]
    tauto

theorem length_insertPeer (p : Peer) (ps : List Peer) :
    (insertPeer p ps).length = ps.length + 1 := by
  induction ps with
  | nil => rfl
  | cons r rs ih => unfold insertPeer; split <;> simp [ih]

/-- Putting a station without an entry at its place keeps the order of the table. -/
theorem pairwise_insertPeer {p : Peer} {ps : List Peer}
    (h : ps.Pairwise (fun a b => a.station < b.station)) (hn : ∀ q ∈ ps, q.station ≠ p.station) :
    (insertPeer p ps).Pairwise (fun a b => a.station < b.station) := by
  induction ps with
  | nil => simp [insertPeer]
  | cons r rs ih =>
    rw [List.pairwise_cons] at h
    unfold insertPeer
    split
    · next hlt =>
      refine List.pairwise_cons.2 ⟨fun q hq => ?_, List.pairwise_cons.2 h⟩
      rcases List.mem_cons.1 hq with rfl | hq
      · exact hlt
      · exact Nat.lt_trans hlt (h.1 q hq)
    · next hlt =>
      have hr := hn r (by simp)
      refine List.pairwise_cons.2 ⟨fun q hq => ?_, ih h.2 fun q hq => hn q (by simp [hq])⟩
      rcases mem_insertPeer.1 hq with rfl | hq
      · omega
      · exact h.1 q hq

/-! ## A receive queue -/

/-- Two sequence numbers at the same offset are the same number. -/
theorem RxQueue.offset_inj (q : RxQueue) {a b : Seq} (h : q.offset a = q.offset b) : a = b := by
  simp only [RxQueue.offset, seqAhead] at h
  have := BitVec.eq_of_toNat_eq h
  bv_omega

/-- A queue holds a sequence number once. -/
theorem RxQueue.Ok.entry_unique {q : RxQueue} (h : q.Ok) {a b : RxEntry} (ha : a ∈ q.entries)
    (hb : b ∈ q.entries) (e : a.seq = b.seq) : a = b := by
  obtain ⟨i, hi, rfl⟩ := List.getElem_of_mem ha
  obtain ⟨j, hj, rfl⟩ := List.getElem_of_mem hb
  have hp := List.pairwise_iff_getElem.1 h.2.2.2.1
  rcases lt_trichotomy i j with hij | rfl | hij
  · have := hp i j hi hj hij
    rw [e] at this
    omega
  · rfl
  · have := hp j i hj hi hij
    rw [e] at this
    omega

theorem RxQueue.atNext_none {q : RxQueue} : q.atNext = none ↔ ∀ e ∈ q.entries, e.seq ≠ q.next := by
  simp [RxQueue.atNext]

theorem RxQueue.atNext_some {q : RxQueue} {e : RxEntry} (h : q.atNext = some e) :
    e ∈ q.entries ∧ e.seq = q.next := by
  unfold RxQueue.atNext at h
  exact ⟨List.mem_of_find?_eq_some h, by simpa using List.find?_some h⟩

/-- The entry held at *next* is the one the playout step takes. -/
theorem RxQueue.Ok.atNext_of_mem {q : RxQueue} (h : q.Ok) {e : RxEntry} (he : e ∈ q.entries)
    (hs : e.seq = q.next) : q.atNext = some e := by
  cases hf : q.atNext with
  | none => exact absurd hs (RxQueue.atNext_none.1 hf e he)
  | some x =>
    obtain ⟨hx, hxs⟩ := RxQueue.atNext_some hf
    rw [h.entry_unique hx he (by rw [hxs, hs])]

end Sys2Proof.Machine
end

