-- ==== Sys2Proof/Tests/Slice0.lean ====
section
/-! SUPPORT. Tests by the spec's own examples, the well-formedness smoke, and for each statement with
hypotheses a witness that meets them. -/

namespace Sys2Proof.Tests

open Sys2Proof.Machine

set_option Elab.async false

/-! ## Well-formedness: one ill-formed command for each check -/

theorem test_frame_of_600_bytes_is_delivered :
    (Instr.frameArrival (List.replicate 600 0#8) true).wellFormed = true := by decide +kernel

theorem test_frame_of_601_bytes_is_refused :
    (Instr.frameArrival (List.replicate 601 0#8) true).wellFormed = false := by decide +kernel

theorem test_timer_of_station_0_is_refused :
    (Instr.peerLossExpiry 0).wellFormed = false ∧ (Instr.lostRemovalExpiry 0).wellFormed = false ∧
    (Instr.hailedExpiry 0).wellFormed = false ∧ (Instr.departedHoldExpiry 0).wellFormed = false := by
  decide

theorem test_timer_of_station_255_is_refused :
    (Instr.peerLossExpiry 255).wellFormed = false ∧ (Instr.hailedExpiry 254).wellFormed = true := by
  decide

theorem test_unknown_byte_that_names_status_is_refused :
    (Instr.unknownCommand 0x90 true).wellFormed = false ∧
    (Instr.unknownCommand 0x90 false).wellFormed = true ∧
    (Instr.unknownCommand 0x91 true).wellFormed = true := by decide

/-! ## Command bytes (section 9.1: REQ FLOOR is the byte 0x72 and DONE HANGUP is 0x81) -/

theorem test_byte_of_req_floor : commandOfByte 0x72 = some (.req .floor) := by decide

theorem test_byte_of_done_hangup : commandOfByte 0x81 = some (.done .hangup) := by decide

theorem test_byte_of_status : commandOfByte 0x90 = some .status := by decide

theorem test_bytes_that_name_nothing :
    commandOfByte 0x00 = none ∧ commandOfByte 0xA0 = none ∧ commandOfByte 0x74 = none ∧
    commandOfByte 0x82 = none ∧ commandOfByte 0x11 = none ∧ commandOfByte 0xFF = none := by decide

theorem test_no_word_spells_a_command (s : State) :
    decodeTableWord 8 0x72 = none ∧ s.withFetchWord 8 0x72 = s := by exact ⟨rfl, rfl⟩

/-! ## Frames, written byte by byte from the table of section 1.5 -/

/-- A block that holds one value at every position. -/
def flat (x : Sample) : Block := Block.ofFn (fun _ => x)

/-- Status flags from LEAD, MUTED, ISOLATED, CLAIM, ACTIVE. -/
def lead : StatusFlags := ⟨true, false, false, false, false⟩
def plain : StatusFlags := ⟨false, false, false, false, false⟩
def active : StatusFlags := ⟨true, false, false, false, true⟩

/-- A sender with these flags, mic score 20, toggle FLOOR set and FLOOR pending. -/
def asking (f : StatusFlags) : SenderState :=
  ⟨f, 20, ⟨false, false, true, false⟩, ⟨false, false, true, false⟩⟩

/-- A sender with these flags and nothing asked. -/
def quietly (f : StatusFlags) : SenderState := ⟨f, 20, PerKind.all false, PerKind.all false⟩

def headerOf (k : FrameKind) (n w : Nat) (s : SenderState) : Header := ⟨k, 0x1234, n, w, 9, s⟩

/-- LEAVE of station 33, wearer 7: header only. -/
def leaveBytes (n : Byte) : List Byte := [4, 0x12, 0x34, n, 7, 0x01, 9, 20, 0]
def leaveOf (n : Nat) : Frame := ⟨headerOf .leave n 7 (quietly lead), none, .leave⟩

/-- HAIL of a station with the code CAFE0001 and a heard list. -/
def hailBytes (n : Byte) (heard : List Byte) : List Byte :=
  [3, 0x12, 0x34, n, 7, 0x01, 9, 20, 0, 0xCA, 0xFE, 0x00, 0x01] ++
    BitVec.ofNat 8 heard.length :: heard
def hailOf (n : Nat) (heard : List Nat) : Frame :=
  ⟨headerOf .hail n 7 (quietly lead), none, .hail 0xCAFE0001 heard⟩

/-- PRESENCE of a station with FLOOR asked for. -/
def presenceBytes (n : Byte) (roster : List Byte) : List Byte :=
  [2, 0x12, 0x34, n, 7, 0x01, 9, 20, 0x44] ++ BitVec.ofNat 8 roster.length :: roster
def presenceOf (n : Nat) (roster : List Nat) : Frame :=
  ⟨headerOf .presence n 7 (asking lead), none, .presence roster⟩

/-- TALK of an ACTIVE bridge: holder 33, wearer 7, 59 units, an echo for station 40 with FLOOR set; a
voice block 700 with START, level 300, and a call block 4410, level 2, of samples -2. -/
def talkBytes (n : Byte) : List Byte :=
  [1, 0x12, 0x34, n, 7, 0x11, 9, 20, 0] ++ [33, 7, 0, 59, 1, 40, 0x04] ++
  [0x02, 0xBC, 1, 0x01, 0x01, 0x2C] ++ (List.replicate 32 [0x01, 0x2C]).flatten ++
  [0x11, 0x3A, 1, 0x00, 0x00, 0x02] ++ (List.replicate 32 [0xFF, 0xFE]).flatten
def talkVoice : TalkSection := ⟨700, [⟨true, false, 300, flat 300⟩]⟩
def talkCall : TalkSection := ⟨4410, [⟨false, false, 2, flat (-2)⟩]⟩
def talkExtras : Extras := ⟨33, 7, 59, [⟨40, ⟨false, false, true, false⟩⟩]⟩
def talkOf (n : Nat) : Frame :=
  ⟨headerOf .talk n 7 (quietly active), some talkExtras, .talk talkVoice talkCall⟩

theorem test_leave_is_read_and_written :
    parseFrame (leaveBytes 33) = some (leaveOf 33) ∧ encodeFrame (leaveOf 33) = leaveBytes 33 := by
  decide +kernel

theorem test_hail_is_read_and_written :
    parseFrame (hailBytes 33 [5, 40]) = some (hailOf 33 [5, 40]) ∧
    encodeFrame (hailOf 33 [5, 40]) = hailBytes 33 [5, 40] := by decide +kernel

theorem test_presence_is_read_and_written :
    parseFrame (presenceBytes 33 [40, 60]) = some (presenceOf 33 [40, 60]) ∧
    encodeFrame (presenceOf 33 [40, 60]) = presenceBytes 33 [40, 60] := by decide +kernel

theorem test_talk_is_read_and_written :
    parseFrame (talkBytes 33) = some (talkOf 33) ∧ encodeFrame (talkOf 33) = talkBytes 33 := by
  decide +kernel

/-- R3: a station 0, a wearer 0, CLAIM with ACTIVE, a list out of order, a byte too many, a kind 5. -/
theorem test_malformed_frames_are_refused :
    parseFrame [4, 0x12, 0x34, 0, 7, 1, 9, 20, 0] = none ∧
    parseFrame [4, 0x12, 0x34, 33, 0, 1, 9, 20, 0] = none ∧
    parseFrame [4, 0x12, 0x34, 33, 7, 0x18, 9, 20, 0] = none ∧
    parseFrame (presenceBytes 33 [60, 40]) = none ∧
    parseFrame (leaveBytes 33 ++ [0]) = none ∧
    parseFrame [5, 0x12, 0x34, 33, 7, 1, 9, 20, 0] = none := by decide +kernel

/-! ## Worked figures of the spec -/

/-- The table under R58: 0, 3200 gives 200, then 6400 gives 587, then 0 gives 550. -/
theorem test_smoothing : smooth 0 3200 = 200 ∧ smooth 200 6400 = 587 ∧ smooth 587 0 = 550 := by
  decide

/-- R90: halving a sample of -301 gives -151, and quartering it gives -76. -/
theorem test_concealment_rounds_down :
    ((-301 : Sample).sshiftRight 1).toInt = -151 ∧ ((-301 : Sample).sshiftRight 2).toInt = -76 := by
  decide

/-- The duck of section 6.9: 1024 falls by 128 toward 512, and rises by 64 after it. -/
theorem test_duck_ramp :
    duckRamp 128 64 512 1024 = 896 ∧ duckRamp 128 64 512 640 = 512 ∧
    duckRamp 128 64 512 512 = 512 ∧ duckRamp 128 64 1024 512 = 576 := by decide

/-- The products of section 6.9 at b5: effective gains 768, 512, 256. -/
theorem test_products_at_b5 :
    Source.effective 512 ⟨flat 0, 1536, true⟩ = 768 ∧ mixProduct 20000 1024 = 20000 ∧
    mixProduct 12000 768 = 9000 ∧ mixProduct (-3000) 512 = -1500 ∧ mixProduct 8000 256 = 2000 := by
  decide

/-- R118's largest and most negative products. -/
theorem test_product_bounds :
    mixProduct 32767 4095 = 131036 ∧ mixProduct (-32768) 4095 = -131040 := by decide

/-- R121, R122: the least gain is 744, and a sum of -32768 comes out as -32767. -/
theorem test_limiter :
    limiterGain 256 1441440 32768 = 744 ∧ limiterGain 256 32768 32768 = 32767 ∧
    (mixOutput 32767 (-32768)).toInt = -32767 := by decide

/-! ## A spurt, a slide and a drop (sections 5.8 to 5.10) -/

def entryOf (n : Nat) : RxEntry := ⟨BitVec.ofNat 16 n, Block.silence, 1000, false⟩

/-- The queue of section 5.8 before b12: 709, 710 (END), 722 and 723 are held. -/
def queueB12 : RxQueue :=
  { RxQueue.cleared QueueCounts.zero with
    mode := .playing, next := 710, primeWait := 1
    entries := [{ entryOf 710 with isEnd := true }, entryOf 722, entryOf 723] }

/-- Section 5.8, b13: 710 carries END, so the queue is PRIMING on 722 with the prime wait at 3. -/
theorem test_end_goes_to_priming :
    let q := (queueB12.playStep 3).1
    q.mode = .priming ∧ q.next = 722 ∧ q.primeWait = 3 ∧ q.entries.map (·.seq) = [722, 723] := by
  decide

/-- The queue of section 5.9: *next* 1000, holding 1003 and 1005, *k* 2. -/
def queueSlide : RxQueue :=
  { RxQueue.cleared QueueCounts.zero with
    mode := .playing, next := 1000, conceal := 2, entries := [entryOf 1003, entryOf 1005] }

/-- Section 5.9: 1020 slides the window to 1005 and removes 1003. -/
theorem test_slide :
    let r := queueSlide.place 3 (entryOf 1020)
    r.1.next = 1005 ∧ r.1.entries.map (·.seq) = [1005, 1020] ∧ r.1.counts.slides = 1 ∧
    r.2 = true := by decide

/-- Section 5.9: 1040 at *next* 1006 with 1020 held is a resync. -/
theorem test_resync :
    let r := RxQueue.place 3 { queueSlide with next := 1006, entries := [entryOf 1020] }
      (entryOf 1040)
    r.1.mode = .priming ∧ r.1.next = 1040 ∧ r.1.counts.resyncs = 1 ∧ r.1.counts.slides = 0 := by
  decide

/-- The downlink queue of section 5.10 at its third boundary: 4412 of level 310 at *next*. -/
def slipping (l : Nat) (kind : Slip) (wait : Nat) : Downlink :=
  { queue := { RxQueue.cleared QueueCounts.zero with
      mode := .playing, next := 4412
      entries := [{ entryOf 4412 with level := l }, entryOf 4413, entryOf 4414] }
    slip := ⟨250, 0, some kind, wait⟩, slips := 0 }

/-- Section 5.10: 4412 is quiet, so 4413 is skipped, *next* is 4414 and the slip is counted. -/
theorem test_quiet_drop :
    let d := ((slipping 310 .drop 62).step 3 400).1
    d.queue.next = 4414 ∧ d.queue.entries.map (·.seq) = [4414] ∧ d.slips = 1 ∧
    d.slip = ⟨0, 0, none, 0⟩ := by decide +kernel

/-! ## States for the witnesses -/

/-- The settings of station 40, wearer 4. -/
def cfg : Settings where
  station := 40
  wearer := 4
  group := 0x1234
  code := 0xCAFE0001
  joinTime := 20
  margin := 1
  depth := 3
  grantTime := 10
  guard := 8
  packWait := 4
  packCount := 2
  hangover := 50
  quietThreshold := 400
  callThreshold := 600
  callTarget := 512
  floorTarget := 256
  duckHold := 150
  attack := 64
  release := 32
  limiterRelease := 256
  sidetone := 300
  downlinkGain := 1024
  wearerMap := List.replicate 15 ⟨1024, 1024, false⟩

/-- A peer with these fields, an empty voice queue unless HAILED, and FLOOR's toggle unseen. -/
def peerOf (n w : Nat) (st : PeerState) (h : SenderState) (roster : List Nat) : Peer where
  station := n
  wearer := w
  state := st
  lastHeard := 900
  lostAt := if st = .lost then some 950 else none
  lastSeq := 7
  header := h
  roster := roster
  heard := []
  hailedMe := false
  hailMark := st = .hailed
  lastSeen := none
  frames := 5
  missed := 0
  queue := if st = .hailed then none else some (RxQueue.cleared QueueCounts.zero)

/-- A RUNNING station in IDLE with nothing due and no peers. -/
def alone : State :=
  { State.reset with
    now := 1000
    ports := { State.reset.ports with resetHeld := false }
    lp := { State.reset.lp with idleMark := some 0 }
    sa := { State.reset.sa with presenceTimer := some 9000 }
    sl := { state := .running, reading := false, fault := .noFault, settings := cfg } }

/-- The same station with an ADMITTED, a LOST and a HAILED peer; 33 vouches for 61 and for 99, which is on
the departed list. -/
def grouped : State :=
  { alone with ru := { alone.ru with
    peers := [peerOf 33 7 .admitted (quietly lead) [40, 61, 99], peerOf 60 9 .lost (quietly lead) [],
              peerOf 70 9 .hailed (quietly plain) []]
    departed := [⟨99, 50000⟩] } }

/-- The same station with its join window open. -/
def joining : State :=
  { grouped with ru := { grouped.ru with window := some 500000 },
                 sa := { grouped.sa with hailTimer := some 3000 } }

/-- An ACTIVE bridge: 33 holds the floor and the station itself waits, 33's toggles have been seen. -/
def bridge : State :=
  { grouped with
    ru := { grouped.ru with peers :=
      [{ peerOf 33 7 .admitted (quietly lead) [40, 61, 99] with lastSeen := some (PerKind.all false) },
       peerOf 60 9 .lost (quietly lead) [], peerOf 70 9 .hailed (quietly plain) []] }
    bu := ⟨.active, true, none, some 40⟩
    cq := { grouped.cq with holder := some 33, grant := some 400000, floorQueue := [40],
                            latches := ⟨true, false⟩ }
    lp := { grouped.lp with access := .turnaround, sendDoneAt := some 990 }
    sa := { grouped.sa with queue := [⟨.voice, 5, Block.silence, 300, true, false⟩,
                                      ⟨.call, 5, Block.silence, 300, false, false⟩,
                                      ⟨.voice, 6, Block.silence, 300, false, false⟩] }
    cu := { grouped.cu with captureCount := 6, spurt := .talking, spurtSent := true }
    cl := { grouped.cl with sending := some (requestReport .answer 0) } }

/-- A follower of bridge 33 with FLOOR pending and HANGUP late, its downlink queue playing with a drop
pending, and its floor view set. -/
def follower : State :=
  { grouped with
    ru := { grouped.ru with peers :=
      [peerOf 33 7 .admitted (quietly active) [40], peerOf 41 4 .admitted (quietly plain) []] }
    bu := ⟨.off, false, none, some 33⟩
    cq := { grouped.cq with
      slots := { grouped.cq.slots with floor := ⟨true, some 150000, false⟩,
                                       hangup := ⟨true, none, true⟩ }
      view := some ⟨33, 7, 70000⟩ }
    rq := slipping 2200 .drop 64 }

/-- A CLAIMING station whose settle timer ends at 1200. -/
def claiming : State :=
  { grouped with bu := ⟨.claiming, true, some 1200, none⟩,
                 cq := { grouped.cq with slots := { grouped.cq.slots with
                   answer := ⟨true, some 150000, false⟩ } } }

/-- The same station with a lower claimer. -/
def yielding (b : BridgeState) : State :=
  { follower with bu := ⟨b, true, none, some 33⟩ }

/-- In DEFER with a count of 3 below CW 16, a PRESENCE being due. -/
def deferring : State :=
  { grouped with lp := { grouped.lp with access := .defer, cw := 16, backoff := some 3 },
                 sa := { grouped.sa with presenceTimer := none, promptDue := true } }

/-- In SENDING. -/
def sendingNow : State := { grouped with lp := { grouped.lp with access := .sending } }

/-- Isolated with the call flag set. -/
def isolatedNow : State :=
  { grouped with ports := { grouped.ports with audioReady := false },
                 wl := { grouped.wl with role := .standby },
                 bu := ⟨.off, true, none, none⟩ }

/-- A station that is loading. -/
def loadingNow : State :=
  { State.reset with ports := { State.reset.ports with resetHeld := false },
                     sl := { State.reset.sl with reading := true } }

/-! ## The configuration image (section 9.4), byte by byte -/

/-- Bytes 4 to 69 of an image: code CAFE0001; *J* 20, *m* 1; *D* 3, *G* 10; guard 8, attack code 7;
release code 6, limiter code 9; *W* 4, mask 0x200; *H* 50, *P* 2, wearer 3 exempt; *Tq* 400, *Tc* 2000;
*Kc* 512, *Kf* 256; *Hc* 150; downlink gain 1024, *gs* 256; every wearer's gains 1536 and 1024. -/
def imageBody : List Byte :=
  [0xCA, 0xFE, 0x00, 0x01, 0x54, 0x52, 0x78, 0x96, 0x42, 0x00, 0x64, 0x80, 0x04, 25, 125, 128, 64,
   150, 0x40, 0x01, 0x00] ++ (List.replicate 15 [0x60, 0x04, 0x00]).flatten

/-- An image with its first four bytes given, its sum off by `err`. -/
def imageOf (b0 b1 g1 g0 : Byte) (err : Nat) : Image :=
  let l := [b0, b1, g1, g0] ++ imageBody
  let sum := (l.map (·.toNat)).sum + err
  ⟨l ++ [BitVec.ofNat 8 (sum / 256), BitVec.ofNat 8 sum], by simp [l, imageBody]⟩

/-- Station 40, wearer 4, group 0x1234. -/
def goodImage : Image := imageOf 0x41 40 0x12 0x34 0

theorem test_image_is_decoded :
    imageFault goodImage = none ∧ imageClamped goodImage = false ∧
    imageMask goodImage = 0x200#12 ∧
    (let c := imageSettings goodImage
     c.wearer = 4 ∧ c.joinTime = 20 ∧ c.margin = 1 ∧ c.depth = 3 ∧ c.grantTime = 10 ∧
     c.guard = 8 ∧ c.attack = 64 ∧ c.release = 32 ∧ c.limiterRelease = 256 ∧ c.packWait = 4 ∧
     c.hangover = 50 ∧ c.packCount = 2 ∧ c.quietThreshold = 400 ∧ c.callTarget = 512 ∧
     c.downlinkGain = 1024 ∧ c.sidetone = 256 ∧ c.mapEntry 3 = ⟨1536, 1024, true⟩ ∧
     c.mapEntry 15 = ⟨1536, 1024, false⟩) := by decide +kernel

/-- R183: an all-0xFF image from an absent memory fails with FORMAT. -/
theorem test_absent_memory :
    imageFault ⟨List.replicate 72 0xFF, by simp⟩ = some .format := by decide +kernel

/-! ## One step each, through the front of the queue -/

/-- What a step does with one command waiting in a state. -/
def after (c : Instr) (s : State) : Option State :=
  match step { s with pending := [c] } with
  | .next t => some t
  | .fault _ => none
  | .refused _ => none

/-- The command runs and leaves a state with this property. -/
def leaves (c : Instr) (s : State) (p : State → Bool) : Bool := (after c s).any p

theorem test_start_up :
    leaves .resetRelease State.reset (fun t => t.sl.reading) = true ∧
    leaves (.loadingComplete goodImage) loadingNow (fun t => t.sl.state = .running) = true ∧
    leaves (.loadingComplete (imageOf 0x41 40 0x12 0x34 1)) loadingNow
      (fun t => t.sl.fault = .sum && t.attn) = true := by decide +kernel

/-- R39: a LEAVE frame of 33 empties its place and holds it off for 10 s. -/
theorem test_leave_frame :
    leaves (.frameArrival (leaveBytes 33) true) grouped
      (fun t => (t.peer 33).isNone && t.flag .peerLeft &&
        t.ru.departed.map (·.station) = [99, 33]) = true := by decide +kernel

/-- R28: a hail that names station 40 in an open window makes 50 a peer. -/
theorem test_hail_admits :
    leaves (.frameArrival (hailBytes 50 [40]) true) joining
      (fun t => (t.peer 50).any (fun p => p.state = .admitted) && t.flag .peerJoined) = true := by
  decide +kernel

/-- R148, R167: the followed bridge's TALK echoes FLOOR and names holder 33 with 59 units. -/
theorem test_echo_and_view :
    leaves (.frameArrival (talkBytes 33) true) follower
      (fun t => t.cq.slots.floor = ⟨true, none, false⟩ && t.cl.outcomes.floor = .accepted &&
        t.cq.view = some ⟨33, 7, 591000⟩) = true := by decide +kernel

/-- R78, R80: the voice section starts the sender's queue on block 700. -/
theorem test_voice_reaches_its_queue :
    leaves (.frameArrival (talkBytes 33) true) follower
      (fun t => (t.peer 33).any (fun p => p.queue.any (fun q => q.mode = .priming && q.next = 700)))
      = true := by decide +kernel

theorem test_claim_settles :
    leaves .settleExpiry claiming (fun t => t.bu.state = .active && t.bu.followed = some 40 &&
      t.cq.latches.answer && t.cl.outcomes.answer = .accepted) = true := by decide +kernel

/-- R153: FLOOR pending at 33, at the own 40 and at 41, which YIELDs too; the LOST 60 is not asked. -/
theorem test_claim_builds_the_floor_in_order :
    leaves .settleExpiry
      { claiming with
        ru := { claiming.ru with peers :=
          [peerOf 33 7 .admitted (asking plain) [],
           peerOf 41 4 .admitted ⟨plain, 20, PerKind.all false, ⟨false, false, true, true⟩⟩ [],
           peerOf 60 9 .lost (asking plain) []] }
        cq := { claiming.cq with slots := { claiming.cq.slots with
          floor := ⟨true, some 150000, false⟩ } } }
      (fun t => t.onFloor = [33, 40] && t.cq.grant = some (1200 + 100000 * cfg.grantTime) &&
        t.flag .floorChange) = true := by decide +kernel

theorem test_call_off_drops_the_latch :
    leaves .callOff bridge (fun t => t.cl.outcomes.answer = .dropped && t.cq.holder.isNone &&
      t.sa.queue.length = 2) = true := by decide +kernel

theorem test_leave_keeps_the_bridge :
    leaves .leave bridge (fun t => t.cq.holder = some 40 && t.bu.state = .active &&
      t.ru.peers.isEmpty) = true := by decide +kernel

theorem test_status_clears_flags :
    leaves .status { alone with cl := { alone.cl with flags := 0x004 } }
      (fun t => t.cl.flags = 0 && t.cl.sending.any (fun r => r.bytes.length = 56) &&
        t.cl.waiting.map (·.bytes) = [[2, 1, 0]]) = true := by decide +kernel

theorem test_boundary_starts_a_spurt :
    leaves (.blockBoundary (flat 500) Block.silence) alone
      (fun t => t.cu.spurt = .talking && t.cu.avg = 31 && t.sa.queue.length = 1 &&
        t.ports.earOut.sample 0 = 146) = true := by decide +kernel

theorem test_request_toggles_its_slot :
    leaves (.req .floor) grouped (fun t => t.cq.slots.floor = ⟨true, some 201000, false⟩) = true ∧
    leaves (.req .floor) follower (fun t => t.cl.outcomes.floor = .busy) = true := by decide +kernel

theorem test_grant_passes_on :
    leaves .floorGrantExpiry bridge (fun t => t.cq.holder = some 40 && t.flag .floorChange) = true :=
  by decide +kernel

theorem test_peer_loss_frees_the_floor :
    leaves (.peerLossExpiry 33) bridge (fun t => t.cq.holder = some 40 && t.flag .peerLost &&
      (t.peer 33).any (fun p => p.state = .lost)) = true := by decide +kernel

/-! ## Witnesses: states and operands that meet the hypotheses of each statement -/

theorem witness_alone_inv : alone.Inv where
  settings := by decide +kernel
  atRest := by decide +kernel
  roster := by decide +kernel
  queues := by decide +kernel
  capture := by decide +kernel
  role := by decide +kernel
  sendQueue := by decide +kernel
  due := by decide +kernel
  link := by decide +kernel
  work := by decide +kernel
  bridge := by decide +kernel
  term := by decide +kernel
  floor := by decide +kernel
  reports := by decide +kernel
  mix := by decide +kernel
  output := by decide +kernel

theorem witness_bridge_inv : bridge.Inv where
  settings := by decide +kernel
  atRest := by decide +kernel
  roster := by decide +kernel
  queues := by decide +kernel
  capture := by decide +kernel
  role := by decide +kernel
  sendQueue := by decide +kernel
  due := by decide +kernel
  link := by decide +kernel
  work := by decide +kernel
  bridge := by decide +kernel
  term := by decide +kernel
  floor := by decide +kernel
  reports := by decide +kernel
  mix := by decide +kernel
  output := by decide +kernel

theorem witness_follower_inv : follower.Inv where
  settings := by decide +kernel
  atRest := by decide +kernel
  roster := by decide +kernel
  queues := by decide +kernel
  capture := by decide +kernel
  role := by decide +kernel
  sendQueue := by decide +kernel
  due := by decide +kernel
  link := by decide +kernel
  work := by decide +kernel
  bridge := by decide +kernel
  term := by decide +kernel
  floor := by decide +kernel
  reports := by decide +kernel
  mix := by decide +kernel
  output := by decide +kernel

theorem witness_StepTakesTheFrontCommand : State.reset.pending = [] := by decide

theorem witness_ResetHoldsEveryBlockAtRest :
    State.reset.ports.resetHeld = true ∧ alone.ports.resetHeld = false := by decide

/-- Each of the five checks as the first that fails, an image that passes, and no read in progress. -/
theorem witness_LoadingChecksTheImage :
    loadingNow.sl.state = .loading ∧ loadingNow.sl.reading = true ∧
    (imageOf 0x42 40 0x12 0x34 0).byteAt 0 % 16 ≠ 1 ∧
    (imageFault (imageOf 0x41 40 0x12 0x34 1) = some .sum) ∧
    (imageFault (imageOf 0x41 255 0x12 0x34 0) = some .station) ∧
    (imageFault (imageOf 0x41 0 0x12 0x34 0) = some .station) ∧
    (imageFault (imageOf 0x01 254 0x12 0x34 0) = some .wearer) ∧
    (imageFault (imageOf 0x11 1 0xFF 0xFF 0) = some .group) ∧
    (imageFault (imageOf 0xF1 1 0 0 0) = some .group) ∧
    imagePasses (imageOf 0x11 1 0x00 0x01 0) ∧ imagePasses (imageOf 0xF1 254 0xFF 0xFE 0) ∧
    ¬(alone.sl.state = .loading ∧ alone.sl.reading = true) := by decide +kernel

theorem witness_SettingsAreDecodedAndClamped :
    imagePasses goodImage ∧ imageClamped ⟨List.replicate 72 0xFF, by simp⟩ = true := by
  decide +kernel

/-- Listening in IDLE and in DEFER on a busy and an idle medium; a gap that ends with count 0 and with
3; a slot that ends with count 1 and with 3; and the cases in which no gap or slot runs. -/
theorem witness_MediumIsCountedQuiet :
    (alone.running ∧ alone.lp.access = .idle ∧ alone.ports.mediumBusy = false) ∧
    (deferring.running ∧ deferring.lp.access = .defer ∧ deferring.ports.mediumBusy = false ∧
      deferring.lp.idleMark = some 0 ∧ deferring.lp.slotEnd = none ∧
      deferring.lp.backoff = some 3) ∧
    (let s := { deferring with lp := { deferring.lp with backoff := some 0 } }
     s.lp.access = .defer ∧ s.lp.idleMark = some 0 ∧ s.lp.slotEnd = none ∧ s.lp.backoff = some 0) ∧
    (let s := { deferring with lp := { deferring.lp with backoff := some 1, slotEnd := some 20 } }
     s.lp.access = .defer ∧ s.lp.slotEnd = some 20 ∧ s.lp.backoff = some 1) ∧
    (let s := { alone with ports := { alone.ports with mediumBusy := true } }
     s.running ∧ s.lp.access = .idle ∧ s.ports.mediumBusy = true) ∧
    ¬State.reset.running ∧ alone.lp.access ≠ .defer := by decide +kernel

/-- A frame due in IDLE on a quiet medium, and 10 µs short of the quiet gap; none due in DEFER. -/
theorem witness_LinkPortMeetsFrameDue :
    (let s := { alone with now := 15, sa := { alone.sa with promptDue := true } }
     s.lp.access = .idle ∧ s.frameDue = true ∧ s.ports.mediumBusy = false ∧
     s.lp.idleMark = some 0 ∧ 0 + 15 ≤ s.now) ∧
    (let s := { alone with now := 14, sa := { alone.sa with promptDue := true } }
     s.lp.access = .idle ∧ s.frameDue = true ∧ s.quietForGap = false ∧ 0 < s.lp.cw) ∧
    (deferring.lp.access = .defer ∧ deferring.frameDue = true) ∧
    (let s := { deferring with sa := alone.sa }
     s.lp.access = .defer ∧ s.frameDue = false) ∧
    (alone.lp.access = .idle ∧ alone.frameDue = false) ∧ sendingNow.lp.access = .sending := by
  decide +kernel

theorem witness_SendDoneAndTurnaround :
    (sendingNow.lp.access = .sending ∧ sendingNow.cfg.guard ≠ 0) ∧
    (let s := { sendingNow with sl := { sendingNow.sl with settings := { cfg with guard := 0 } } }
     s.lp.access = .sending ∧ s.cfg.guard = 0) ∧
    (bridge.lp.access = .turnaround ∧ bridge.lp.sendDoneAt = some 990) ∧
    alone.lp.access ≠ .sending ∧ alone.lp.access ≠ .turnaround := by decide +kernel

/-- Each rank of the choice, and TALK due by *P* entries. -/
theorem witness_FrameChoiceIsRanked :
    let due (l h p c : Bool) : State :=
      { bridge with sa := { bridge.sa with leaveDue := l, hailDue := h, promptDue := p,
                                           scheduledDue := c } }
    (due true true true true).chooseKind = some .leave ∧
    (due false true true true).chooseKind = some .hail ∧
    (due false false true true).chooseKind = some .presence ∧
    (due false false false true).talkDue = true ∧
    { alone with sa := { alone.sa with scheduledDue := true } }.talkDue = false := by
  decide +kernel

theorem witness_AskHandsOverOneFrame :
    alone.chooseKind = none ∧ bridge.chooseKind = some .talk ∧
    deferring.chooseKind = some .presence ∧
    { joining with sa := { joining.sa with hailDue := true } }.chooseKind = some .hail ∧
    { alone with sa := { alone.sa with leaveDue := true } }.chooseKind = some .leave := by
  decide +kernel

/-- A run of two voice entries and one call entry, and an empty run. -/
theorem witness_TalkTakesConsecutiveRuns :
    (bridge.run .voice).map (·.seq) = [5, 6] ∧ (bridge.run .call).map (·.seq) = [5] ∧
    alone.run .voice = [] := by decide +kernel

/-- A queue of 11 and one of 12 entries. -/
theorem witness_SendQueueDropsAndAges :
    let e : SendEntry := ⟨.voice, 5, Block.silence, 300, true, false⟩
    (List.replicate 11 e).length < 12 ∧ List.replicate 12 e = e :: List.replicate 11 e ∧
    11 ≤ (List.replicate 11 e).length := by decide +kernel

theorem witness_SendTimersExpire :
    joining.sa.hailTimer = some 3000 ∧ alone.sa.presenceTimer = some 9000 ∧
    { alone with sa := { alone.sa with promotionTimer := some 9000 } }.sa.promotionTimer
      = some 9000 ∧
    alone.sa.hailTimer = none ∧ deferring.sa.presenceTimer = none ∧
    alone.sa.promotionTimer = none := by decide +kernel

/-- A frame with a bad verdict or a byte too many, one of another group, one of the own number, and
the states that take no arrival. -/
theorem witness_ReceiveFilterTakesFourTests :
    ¬State.reset.running ∧ sendingNow.lp.access = .sending ∧ bridge.lp.access = .turnaround ∧
    (alone.running ∧ alone.lp.access = .idle) ∧ (deferring.running ∧ deferring.lp.access = .defer) ∧
    parseFrame (leaveBytes 33 ++ [0]) = none ∧
    (parseFrame [4, 0x12, 0x35, 40, 7, 1, 9, 20, 0]).any
      (fun f => decide (f.header.group ≠ alone.cfg.group)) = true ∧
    (parseFrame (leaveBytes 40)).any
      (fun f => decide (f.header.group = alone.cfg.group ∧ f.header.station = alone.own)) = true := by
  decide +kernel

/-- A HAIL with another code; a PRESENCE of a stranger and of HAILED 70 with nobody vouching, and of 99,
vouched for but departed; a newcomer at a full table. -/
theorem witness_UnadmittedFramesAreUsedForNothing :
    (grouped.Passes (hailBytes 50 [40]) (hailOf 50 [40]) ∧
      ¬({ grouped with sl := { grouped.sl with settings := { cfg with code := 7 } } } : State).OwnCode
        (hailOf 50 [40])) ∧
    (grouped.Passes (presenceBytes 50 []) (presenceOf 50 []) ∧
      grouped.OwnCode (presenceOf 50 []) ∧ grouped.peer 50 = none ∧ ¬grouped.Vouched 50) ∧
    (grouped.Passes (presenceBytes 99 []) (presenceOf 99 []) ∧ ¬grouped.Vouched 99) ∧
    (grouped.Passes (presenceBytes 70 []) (presenceOf 70 []) ∧
      (grouped.peer 70).any (fun p => p.state = .hailed) = true ∧ ¬grouped.Vouched 70) ∧
    (let full : State := { grouped with ru := { grouped.ru with
        peers := [1, 2, 3, 4, 5, 6, 7, 8, 9].map
          (fun n => peerOf n 7 .admitted (quietly lead) [61]) } }
     full.Passes (presenceBytes 61 []) (presenceOf 61 []) ∧ full.peer 61 = none ∧
     9 ≤ full.ru.peers.length ∧ full.Vouched 61) := by
  refine ⟨⟨by decide +kernel, fun h => ?_⟩, ⟨by decide +kernel, ?_, by decide +kernel,
    by decide +kernel⟩, by decide +kernel, by decide +kernel, by decide +kernel⟩
  · exact absurd (h _ _ rfl) (by decide)
  · rintro code heard ⟨⟩

/-- A stranger's HAIL and HAILED 70's HAIL in an open window, neither naming station 40. -/
theorem witness_HailWithoutUsMakesHailedEntry :
    (joining.Passes (hailBytes 50 [5]) (hailOf 50 [5]) ∧ joining.ru.window.isSome = true ∧
      joining.own ∉ [5] ∧ joining.peer 50 = none ∧ joining.ru.peers.length < 9 ∧
      ∀ p ∈ joining.ru.peers, p.state = .admitted → 50 ∉ p.roster) ∧
    (joining.Passes (hailBytes 70 [5]) (hailOf 70 [5]) ∧
      (joining.peer 70).any (fun p => p.state = .hailed) = true ∧
      ∀ p ∈ joining.ru.peers, p.state = .admitted → 70 ∉ p.roster) := by decide +kernel

/-- Named by a HAIL in an open window, as a newcomer and as HAILED; vouched for in a HAIL that does not
name us; introduced by a PRESENCE, and by a HAIL with the window closed. -/
theorem witness_AdmissionMakesPeer :
    joining.RosterOk ∧ grouped.RosterOk ∧
    (joining.Passes (hailBytes 50 [40]) (hailOf 50 [40]) ∧ joining.OwnCode (hailOf 50 [40]) ∧
      joining.peer 50 = none ∧ joining.ru.peers.length < 9 ∧ joining.own ∈ [40]) ∧
    (joining.Passes (hailBytes 70 [40]) (hailOf 70 [40]) ∧
      (joining.peer 70).any (fun p => p.state = .hailed) = true) ∧
    (joining.Passes (hailBytes 61 []) (hailOf 61 []) ∧ joining.peer 61 = none ∧
      ∃ p ∈ joining.ru.peers, p.state = .admitted ∧ 61 ∈ p.roster) ∧
    (grouped.Passes (presenceBytes 61 []) (presenceOf 61 []) ∧ grouped.peer 61 = none ∧
      grouped.Vouched 61 ∧ grouped.ru.window = none) ∧
    (grouped.Passes (hailBytes 61 [40]) (hailOf 61 [40]) ∧ grouped.Vouched 61) := by
  refine ⟨by decide +kernel, by decide +kernel, ⟨by decide +kernel, ?_, by decide +kernel,
    by decide +kernel, by decide +kernel⟩, by decide +kernel, by decide +kernel, by decide +kernel,
    by decide +kernel⟩
  rintro code heard ⟨⟩
  decide

/-- A TALK, a PRESENCE and a HAIL of ADMITTED 33 and of LOST 60. -/
theorem witness_PeerFrameRefreshesEntry :
    grouped.RosterOk ∧ grouped.OwnCode (talkOf 33) ∧
    (grouped.Passes (talkBytes 33) (talkOf 33) ∧
      (grouped.peer 33).any (fun p => p.state = .admitted) = true) ∧
    grouped.Passes (presenceBytes 33 [40, 60]) (presenceOf 33 [40, 60]) ∧
    (joining.Passes (hailBytes 33 [40]) (hailOf 33 [40]) ∧ joining.RosterOk) ∧
    (grouped.Passes (presenceBytes 60 []) (presenceOf 60 []) ∧
      (grouped.peer 60).any (fun p => p.state = .lost) = true) := by
  refine ⟨by decide +kernel, ?_, by decide +kernel, by decide +kernel, by decide +kernel,
    by decide +kernel⟩
  rintro code heard ⟨⟩

/-- The followed bridge's TALK, and that of a peer that becomes the followed bridge with it. -/
theorem witness_SectionsReachTheirQueues :
    (follower.Passes (talkBytes 33) (talkOf 33) ∧ follower.RosterOk ∧
      (follower.peer 33).any (fun p => p.state ≠ .hailed && p.queue.isSome) = true ∧
      follower.bu.followed = some 33) ∧
    (grouped.Passes (talkBytes 33) (talkOf 33) ∧ grouped.RosterOk ∧
      (grouped.peer 33).any (fun p => p.state ≠ .hailed && p.queue.isSome) = true ∧
      grouped.bu.followed = none) := by decide +kernel

/-- A LEAVE of a peer, of a HAILED station and of a stranger. -/
theorem witness_LeaveFrameRemovesSender :
    (grouped.peer 33).any (fun p => p.state = .admitted) = true ∧ grouped.peer 50 = none ∧
    grouped.RosterOk ∧ grouped.Passes (leaveBytes 33) (leaveOf 33) ∧
    grouped.Passes (leaveBytes 70) (leaveOf 70) ∧ grouped.Passes (leaveBytes 50) (leaveOf 50) := by
  decide +kernel

theorem witness_JoinOpensAndExpiryClosesWindow :
    ¬State.reset.running ∧ (grouped.running ∧ grouped.ru.window = none) ∧
    (joining.running ∧ joining.ru.window = some 500000) := by decide +kernel

/-- RUNNING in each bridge state, with a peer as holder and the station itself waiting. -/
theorem witness_LeaveTearsDownTheGroup :
    ¬State.reset.running ∧
    (bridge.running ∧ bridge.bu.state = .active ∧ bridge.cq.holder = some 33 ∧
      33 ≠ bridge.own ∧ bridge.own ∈ bridge.cq.floorQueue) ∧
    (let s := { bridge with cq := { bridge.cq with holder := some 40, floorQueue := [33] } }
     s.running ∧ s.cq.holder = some s.own) ∧
    ((yielding .yielded).running ∧ (yielding .yielded).bu.state = .yielded) ∧
    (claiming.running ∧ claiming.bu.state = .claiming) ∧ follower.running := by decide +kernel

/-- An ADMITTED, a LOST and a HAILED station, a departed one, and station 1, in none of these. -/
theorem witness_PeerTimersExpire :
    bridge.RosterOk ∧ bridge.FloorOk ∧
    (bridge.peer 33).any (fun p => p.state = .admitted) = true ∧
    (bridge.peer 60).any (fun p => p.state = .lost && p.lostAt.isSome) = true ∧
    (bridge.peer 70).any (fun p => p.state = .hailed) = true ∧
    (∃ d ∈ bridge.ru.departed, d.station = 99) ∧ bridge.peer 1 = none ∧
    ∀ d ∈ bridge.ru.departed, d.station ≠ 1 := by decide +kernel

theorem witness_BoundaryIsTakenWhole :
    (bridge.ports.audioReady = true ∧ bridge.running ∧ bridge.cu.avg ≤ 32768) ∧
    (follower.ports.audioReady = true ∧ follower.running) ∧
    isolatedNow.ports.audioReady = false ∧
    (State.reset.ports.audioReady = true ∧ ¬State.reset.running) := by decide +kernel

/-- QUIET, TALKING and HANGOVER, at *Tq* and one above it, with the hangover one short of *H*. -/
theorem witness_SpurtFollowsItsTable :
    let inSpurt (sp : Spurt) (n : Nat) (sent : Bool) : State :=
      { grouped with cu := { grouped.cu with spurt := sp, hangover := n, spurtSent := sent } }
    (inSpurt .quiet 0 false).CaptureOk ∧ (inSpurt .talking 0 true).CaptureOk ∧
    (inSpurt .hangover 1 true).CaptureOk ∧ (inSpurt .hangover 49 false).CaptureOk ∧
    (flat 401).level = 401 ∧ (flat 400).level = 400 ∧ cfg.quietThreshold = 400 ∧
    (grouped.wl.role = .lead ∧ grouped.wearerMute = false) ∧
    ({ inSpurt .talking 0 true with wl := ⟨.lead, false, true⟩ } : State).wearerMute = true := by
  decide +kernel

theorem witness_AudioReadyFallIsolates :
    isolatedNow.ports.audioReady = false ∧ (State.reset.ports.audioReady = true ∧ ¬State.reset.running) ∧
    (bridge.ports.audioReady = true ∧ bridge.running ∧ bridge.bu.state = .active) ∧
    (follower.ports.audioReady = true ∧ follower.running ∧ follower.bu.state ≠ .active) := by
  decide +kernel

theorem witness_AudioReadyRiseStartsAfresh :
    alone.ports.audioReady = true ∧
    (isolatedNow.ports.audioReady = false ∧ isolatedNow.running ∧ isolatedNow.RoleOk ∧
      isolatedNow.bu.state = .off ∧ isolatedNow.bu.callFlag = true) ∧
    (let s := { isolatedNow with sl := State.reset.sl }
     s.ports.audioReady = false ∧ ¬s.running ∧ s.RoleOk) := by decide +kernel

theorem witness_MuteSetsOwnMuteAlone :
    (alone.running ∧ alone.wl.ownMute = false) ∧
    (let s := { alone with wl := { alone.wl with ownMute := true } }
     s.running ∧ s.wl.ownMute = true) ∧ ¬State.reset.running := by decide +kernel

theorem witness_CallOnClaimsTheBridge :
    ¬State.reset.running ∧
    (bridge.running ∧ bridge.bu.followed = bridge.bridgeInView ∧ bridge.bu.state ≠ .off) ∧
    (isolatedNow.running ∧ isolatedNow.bu.followed = isolatedNow.bridgeInView ∧
      isolatedNow.ports.audioReady = false) ∧
    (grouped.running ∧ grouped.bu.followed = grouped.bridgeInView ∧ grouped.bu.state = .off ∧
      grouped.ports.audioReady = true ∧ grouped.lowerClaimer = false) ∧
    (follower.running ∧ follower.bu.followed = follower.bridgeInView ∧ follower.bu.state = .off ∧
      follower.ports.audioReady = true ∧ follower.lowerClaimer = true) := by decide +kernel

theorem witness_CallOffEndsTheTerm :
    ¬State.reset.running ∧
    (bridge.running ∧ bridge.BridgeOk ∧ bridge.bu.state = .active ∧ bridge.RosterOk) ∧
    (claiming.running ∧ claiming.BridgeOk ∧ claiming.bu.state ≠ .active) := by
  and_intros <;> decide +kernel

theorem witness_SettleExpiryDecidesTheClaim :
    bridge.bu.state ≠ .claiming ∧
    (claiming.bu.state = .claiming ∧ claiming.bu.settle = some 1200 ∧
      claiming.bu.followed = claiming.bridgeInView ∧ claiming.lowerClaimer = false ∧
      claiming.RosterOk ∧ claiming.TermOk) ∧
    (let s := { yielding .claiming with bu := ⟨.claiming, true, some 1200, some 33⟩ }
     s.bu.state = .claiming ∧ s.bu.settle = some 1200 ∧ s.bu.followed = s.bridgeInView ∧
     s.lowerClaimer = true) := by decide +kernel

theorem witness_RequestCommandTakesItsSlot :
    ¬State.reset.running ∧
    (follower.running ∧ follower.bu.state ≠ .active ∧
      (follower.cq.slots.get .hangup).timer = none ∧ (follower.cq.slots.get .floor).timer ≠ none) ∧
    (bridge.running ∧ bridge.bu.state = .active ∧
      ∀ k ∈ allKinds, (bridge.cq.slots.get k).timer = none) := by decide +kernel

theorem witness_DoneClearsItsLatchAlone :
    bridge.running ∧ bridge.cq.latches.get .hangup = false ∧ bridge.cq.latches.get .answer = true ∧
    ¬State.reset.running := by decide +kernel

theorem witness_RequestAndFloorTimersExpire :
    (follower.cq.slots.get .floor).timer = some 150000 ∧
    (bridge.cq.grant = some 400000 ∧ bridge.cq.floorQueue = [40]) ∧
    (let s := { bridge with cq := { bridge.cq with floorQueue := [] } }
     s.cq.grant = some 400000 ∧ s.cq.floorQueue = []) ∧
    follower.cq.view = some ⟨33, 7, 70000⟩ ∧ (follower.cq.slots.get .answer).timer = none ∧
    follower.cq.grant = none ∧ bridge.cq.view = none := by decide +kernel

theorem witness_StatusFormsOnePairInOrder :
    State.reset.sl.state = .loading ∧
    (alone.sl.state ≠ .loading ∧ alone.cl.sending = none ∧ alone.cl.waiting = []) ∧
    (bridge.sl.state ≠ .loading ∧ bridge.cl.sending ≠ none ∧ bridge.pairOnItsWay = false) ∧
    alone.formPair.pairOnItsWay = true ∧ alone.formPair.cl.waiting.length = 1 := by decide +kernel

theorem witness_UnknownBytesOnlyCount :
    commandOfByte 0x72 = some (.req .floor) ∧ commandOfByte 0x74 = none ∧
    commandOfByte 0x0F = none ∧ commandOfByte 0xA0 = none ∧ alone.running ∧
    ¬State.reset.running ∧ byteOfCommand (.req .floor) = some 0x72 ∧
    (∀ b stopBit, Instr.req .floor ≠ .unknownCommand b stopBit) := by
  refine ⟨?_, ?_, ?_, ?_, ?_, ?_, ?_, fun _ _ h => nomatch h⟩ <;> decide +kernel

theorem witness_HeaderIsLaidOut :
    (leaveOf 33).body = .leave ∧ (talkOf 33).body = .talk talkVoice talkCall ∧
    talkExtras.echoes[0]? = some ⟨40, ⟨false, false, true, false⟩⟩ ∧
    talkVoice.blocks[0]? = some ⟨true, false, 300, flat 300⟩ := by decide +kernel

theorem witness_FramesRoundTripBothWays :
    (leaveOf 33).WellFormed ∧ (hailOf 33 [1, 254]).WellFormed ∧ (presenceOf 33 []).WellFormed ∧
    (talkOf 254).WellFormed ∧ parseFrame (talkBytes 33) = some (talkOf 33) := by
  refine ⟨?_, ?_, ?_, ?_, test_talk_is_read_and_written.1⟩ <;>
    refine ⟨by decide +kernel, by decide +kernel, fun x hx => ?_, ?_⟩ <;>
    first
    | (cases hx <;> decide +kernel)
    | (simp only [leaveOf, hailOf, presenceOf, talkOf, Body.WellFormed]; decide +kernel)

theorem witness_FormedFramesAreWellFormed : bridge.Inv ∧ bridge.running :=
  ⟨witness_bridge_inv, by decide⟩

theorem witness_ExtrasShowFloorAndEchoes :
    alone.cq.holder = none ∧ bridge.RosterOk ∧
    (bridge.cq.holder = some 33 ∧ 33 ≠ bridge.own ∧ (bridge.peer 33).isSome = true ∧
      bridge.cq.grant = some 400000) ∧
    (let s := { bridge with cq := { bridge.cq with holder := some 40 } }
     s.cq.holder = some 40 ∧ 40 = s.own) := by decide +kernel

/-- A block for an IDLE queue, a duplicate, one at the window's last place, one late, and one before a
PRIMING queue within and beyond the span of 16; a slide and a resync at the edges of the window. -/
theorem witness_BlocksArePlacedByOffset :
    let priming : RxQueue := { queueSlide with mode := .priming, primeWait := 3, conceal := 0 }
    (RxQueue.cleared QueueCounts.zero).mode = .idle ∧ queueSlide.Ok ∧ priming.Ok ∧
    (queueSlide.mode = .playing ∧ queueSlide.offset 1005 = 5 ∧ queueSlide.holds 1005 = true) ∧
    (queueSlide.offset 1015 = 15 ∧ queueSlide.holds 1015 = false) ∧
    (queueSlide.offset 999 = 65535 ∧ queueSlide.offset 33768 = 32768) ∧
    (priming.offset 990 = 65526 ∧ seqAhead 990 1005 + 1 = 16 ∧ seqAhead 989 1005 + 1 = 17) ∧
    (queueSlide.offset 1016 = 16 ∧ queueSlide.offset 33767 = 32767 ∧
      ((1005 : Seq) - (1016 - 15)).toNat < 32768 ∧
      32768 ≤ ((1005 : Seq) - (33767 - 15)).toNat) := by decide +kernel

/-- IDLE, PRIMING, PLAYING with the entry at *next* (plain and with END, with and without more behind
it), and concealing short of and at the eighth. -/
theorem witness_QueuesPlayOut :
    (RxQueue.cleared QueueCounts.zero).mode = .idle ∧
    (queueB12.Ok ∧ queueB12.mode = .playing ∧
      (queueB12.entries.head?).any (fun e => e.isEnd && e.seq = queueB12.next) = true) ∧
    (let q := { queueB12 with entries := [{ entryOf 710 with isEnd := true }] }
     q.Ok ∧ q.mode = .playing ∧ q.entries.filter (fun x => x.seq ≠ q.next) = []) ∧
    ((slipping 310 .drop 62).queue.Ok ∧
      (slipping 310 .drop 62).queue.entries.any (fun e => e.seq = 4412 && !e.isEnd) = true) ∧
    (queueSlide.mode = .playing ∧ ∀ e ∈ queueSlide.entries, e.seq ≠ queueSlide.next) ∧
    (let q := { queueSlide with conceal := 7, entries := [] }
     q.mode = .playing ∧ 8 ≤ min 255 (q.conceal + 1) ∧ q.entries = []) := by decide +kernel

/-- No slip pending, a drop and a repeat pending with a quiet block, with a loud one, and at the end of
the wait; a repeat with nothing at *next*. -/
theorem witness_DownlinkSlips :
    let calm : Downlink := { slipping 2200 .drop 62 with slip := ⟨249, 0, none, 0⟩ }
    let gap : Downlink := { slipping 2200 .repeat 1 with
      queue := { (slipping 2200 .repeat 1).queue with next := 4411 } }
    (calm.queue.Ok ∧ calm.SlipOk ∧ calm.queue.mode = .playing ∧
      (calm.queue.playStep 3).1.mode = .playing) ∧
    ((slipping 399 .drop 62).queue.Ok ∧ (slipping 399 .drop 62).SlipOk ∧
      (slipping 399 .drop 62).slipNow 400 = true) ∧
    ((slipping 400 .drop 62).SlipOk ∧ (slipping 400 .drop 62).slipNow 400 = false) ∧
    ((slipping 400 .repeat 1).SlipOk ∧ (slipping 400 .repeat 1).slipNow 400 = true) ∧
    (gap.queue.Ok ∧ gap.SlipOk ∧ ∀ e ∈ gap.queue.entries, e.seq ≠ gap.queue.next) ∧
    (Downlink.reset.queue.Ok ∧ Downlink.reset.SlipOk ∧ Downlink.reset.queue.mode ≠ .playing) := by
  dsimp only
  and_intros <;> decide +kernel

/-- A duck above, below and at its target; a block at 32767 and one at 32768. -/
theorem witness_OneMixOfOneBus :
    512 < Bus.rest.duck ∧ (⟨512, 32768, 0⟩ : Bus).duck < 1024 ∧ Bus.rest.duck = 1024 ∧
    mixPeak [32767, -32767] = 32767 ∧ mixPeak [-32768] = 32768 := by decide +kernel

theorem witness_SourcesAndBoundsOfTheBuses :
    (bridge.cfg.InRange ∧ bridge.RosterOk ∧ bridge.bu.state = .active ∧
      (bridge.carrier 7).isSome = true ∧ 7 ≠ bridge.cfg.wearer) ∧
    (follower.cfg.InRange ∧ follower.bu.state ≠ .active ∧ follower.bu.followed = some 33) ∧
    (let s := { follower with ru := { follower.ru with
        peers := [peerOf 41 4 .admitted (quietly lead) []] } }
     (s.carrier 4).isSome = true ∧ 4 = s.cfg.wearer) ∧
    (bridge.cq.holder = some 33 ∧ 33 ≠ bridge.own ∧ (bridge.peer 33).isSome = true) ∧
    (let s := { bridge with cq := { bridge.cq with holder := some bridge.own } }
     s.bu.state = .active ∧ s.cq.holder = some s.own) ∧
    (let s := { bridge with cq := { bridge.cq with holder := none } }
     s.bu.state = .active ∧ s.cq.holder = none) := by
  dsimp only
  and_intros <;> decide +kernel

theorem witness_BusesKeepTheirSourcesApart (mic call : Block) :
    (∃ t, exec (.blockBoundary mic call) bridge = .next t) ∧
    bridge.running ∧ bridge.bu.state = .active ∧ bridge.ports.audioReady = true ∧
    ∃ p ∈ follower.ru.peers, p.wearer = follower.cfg.wearer :=
  ⟨⟨_, rfl⟩, by decide +kernel, by decide +kernel, by decide +kernel, by decide +kernel⟩

theorem witness_CarrierIsTheLowestLead :
    bridge.RosterOk ∧ (bridge.carrier 9).any (fun p => p.station = 60) = true ∧
    (bridge.carrier 7).any (fun p => p.station = 33) = true ∧ bridge.carrier 1 = none := by
  decide +kernel

theorem witness_FollowedBridgeIsTheLowestActive :
    (bridge.RosterOk ∧ bridge.bu.state = .active) ∧
    (follower.RosterOk ∧ follower.bridgeInView = some 33 ∧ follower.bu.followed = some 33) ∧
    (let s := { follower with bu := ⟨.off, false, none, none⟩ }
     s.RosterOk ∧ s.bridgeInView ≠ s.bu.followed) ∧ grouped.bridgeInView = none := by
  dsimp only
  and_intros <;> decide +kernel

/-- STANDBY with and without a leading mate; LEAD against a lower lead, and against scores at the margin
and one above it (the own score is 10, so 20 is not enough at a margin of 1). -/
theorem witness_RoleIsEvaluated :
    let with' (r : Role) (p : Peer) : State :=
      { alone with wl := ⟨r, false, false⟩, cu := { alone.cu with avg := 1280 },
                   ru := { alone.ru with peers := [p] } }
    let mate (n score : Nat) (f : StatusFlags) : Peer :=
      peerOf n 4 .admitted { quietly f with micScore := score } []
    ((with' .standby (mate 41 0 lead)).activeMates.any (·.header.flags.lead) = true) ∧
    ((with' .standby (mate 41 0 plain)).activeMates.any (·.header.flags.lead) = false) ∧
    ((with' .lead (mate 39 0 lead)).givesWayTo (mate 39 0 lead) = true) ∧
    ((with' .lead (mate 41 20 plain)).givesWayTo (mate 41 20 plain) = false) ∧
    ((with' .lead (mate 41 21 plain)).givesWayTo (mate 41 21 plain) = true) := by decide +kernel

theorem witness_BridgeStateIsEvaluated :
    (bridge.bu.state = .active ∧ bridge.lowerClaimer = false) ∧
    ((yielding .active).bu.state = .active ∧ (yielding .active).lowerClaimer = true) ∧
    ((yielding .claiming).lowerClaimer = true) ∧ ((yielding .yielded).lowerClaimer = true) ∧
    (let s := { grouped with bu := ⟨.yielded, true, none, none⟩ }
     s.bu.state = .yielded ∧ s.lowerClaimer = false) := by decide +kernel

/-- Echoes that match a PENDING slot (FLOOR) and a late one (HANGUP), from the followed bridge. -/
theorem witness_ExtrasSettleSlotsAndView :
    follower.bu.followed = some 33 ∧ follower.bu.followed ≠ some 41 ∧
    talkExtras.echoes.find? (fun e => e.station = follower.own)
      = some ⟨40, ⟨false, false, true, false⟩⟩ ∧
    (follower.cq.slots.get .floor).toggle = true ∧ (follower.cq.slots.get .floor).timer ≠ none ∧
    ((follower.cq.slots.get .hangup).toggle = true ∧ (follower.cq.slots.get .hangup).late = true ∧
      (follower.cq.slots.get .hangup).timer = none) := by decide +kernel

/-- 33 at a bridge with a record, whose FLOOR toggle differs and is pending; and LOST 60 without one. -/
theorem witness_BridgeTakesNewRequests :
    bridge.RosterOk ∧ bridge.FloorOk ∧
    (bridge.peer 33).any (fun p => p.lastSeen = some (PerKind.all false)) = true ∧
    (bridge.peer 60).any (fun p => p.lastSeen = none) = true ∧
    (asking lead).pending.floor = true ∧ (asking lead).toggles.floor = true := by decide +kernel

/-- The holder, a queued station, a stranger with and without a holder; a set and a clear latch with
room and with four reports waiting. -/
theorem witness_FloorAndLatchesAreActedOn :
    bridge.cq.holder = some 33 ∧ 40 ∈ bridge.cq.floorQueue ∧ 60 ∉ bridge.cq.floorQueue ∧
    alone.cq.holder = none ∧ bridge.cq.latches.get .answer = true ∧
    bridge.cq.latches.get .hangup = false ∧ bridge.requestsWaiting < 4 ∧
    bridge.cl.sending ≠ none ∧ alone.cl.sending = none ∧
    4 ≤ ({ bridge with cl := { bridge.cl with
      waiting := List.replicate 4 (requestReport .answer 0) } } : State).requestsWaiting := by
  decide +kernel

theorem witness_AttnFollowsTheFlags :
    State.reset.sl.state = .loading ∧ alone.sl.state = .running ∧
    ({ alone with sl := { alone.sl with state := .halted } } : State).sl.state = .halted := by decide

theorem witness_ReportsAreLaidOut :
    bridge.ru.peers[2]?.isSome = true ∧ bridge.statusReport.bytes[15]? = some 1 := by decide +kernel

theorem witness_CommandsKeepToTheirBlocks :
    (∃ t, exec .muteOn bridge = .next t) ∧ (∃ t, exec .status bridge = .next t) :=
  ⟨⟨_, rfl⟩, ⟨_, rfl⟩⟩

/-- The invariant says nothing of the commands that wait. -/
theorem inv_of_waiting {s : State} (h : s.Inv) (l : List Instr) :
    ({ s with pending := l } : State).Inv :=
  ⟨h.settings, h.atRest, h.roster, h.queues, h.capture, h.role, h.sendQueue, h.due, h.link, h.work,
   h.bridge, h.term, h.floor, h.reports, h.mix, h.output⟩

/-- A bridge that meets the whole invariant takes a TALK frame of a peer. -/
theorem witness_StepKeepsRosterAndQueues :
    ({ bridge with pending := [.frameArrival (talkBytes 33) true] } : State).Inv ∧
    ∃ t, step { bridge with pending := [.frameArrival (talkBytes 33) true] } = .next t :=
  ⟨inv_of_waiting witness_bridge_inv _, ⟨_, rfl⟩⟩

/-- A follower takes a boundary; a station without peers lets time pass. -/
theorem witness_StepKeepsTheSendingSide :
    (({ follower with pending := [.blockBoundary (flat 500) (flat 0)] } : State).Inv ∧
      ∃ t, step { follower with pending := [.blockBoundary (flat 500) (flat 0)] } = .next t) ∧
    alone.Inv ∧ ∃ t, step alone = .next t :=
  ⟨⟨inv_of_waiting witness_follower_inv _, ⟨_, rfl⟩⟩, witness_alone_inv, ⟨_, rfl⟩⟩

/-- A bridge loses the peer that holds its floor. -/
theorem witness_StepKeepsBridgeAndFloor :
    ({ bridge with pending := [.peerLossExpiry 33] } : State).Inv ∧
    (match step { bridge with pending := [.peerLossExpiry 33] } with
      | .next t => decide (t.cq.holder = some 40)
      | .fault _ => false
      | .refused _ => false) = true :=
  ⟨inv_of_waiting witness_bridge_inv _, by decide +kernel⟩

/-- A station forms a STATUS and ROSTER pair. -/
theorem witness_StepKeepsReportsAndMix :
    ({ bridge with pending := [.status] } : State).Inv ∧
    ∃ t, step { bridge with pending := [.status] } = .next t :=
  ⟨inv_of_waiting witness_bridge_inv _, ⟨_, rfl⟩⟩

end Sys2Proof.Tests
end

section
/-! PROOFS. The Wearer Logic (chapter 3): own mute and the wearer mute, the carrier of a wearer, and
the evaluation of the role. -/

namespace Sys2Proof.Machine

/-! ## Who counts: seen entries and the set M -/

theorem Peer.seen_iff (p : Peer) : p.seen = true ↔ p.state = .admitted ∨ p.state = .lost := by
  cases h : p.state <;> simp [Peer.seen, h]

/-- An ADMITTED entry is a seen one, so among those a mate is told by its wearer alone (R19, R43). -/
theorem State.isMate_of_admitted (s : State) {p : Peer} (h : p.state = .admitted) :
    s.isMate p = true ↔ p.wearer = s.cfg.wearer := by
  simp [State.isMate, Peer.seen, h]

/-- The members of M (R43). -/
theorem State.mem_activeMates (s : State) (p : Peer) :
    p ∈ s.activeMates ↔ p ∈ s.ru.peers ∧ p.wearer = s.cfg.wearer ∧ p.state = .admitted ∧
      p.header.flags.isolated = false := by
  by_cases ha : p.state = .admitted
  · simp [State.activeMates, ha, s.isMate_of_admitted ha]
  · simp [State.activeMates, ha]

/-! ## Commands of the control line while RUNNING and before (R170) -/

theorem State.onCommand_of_running {s : State} (h : s.running) (f : State → State) :
    s.onCommand f = .next (f s) := by simp [State.onCommand, h]

theorem State.onCommand_of_not_running {s : State} (h : ¬s.running) (f : State → State) :
    s.onCommand f = .next s := by simp [State.onCommand, h]

/-! ## Mute (R46, R47) -/

/-- The state with own mute at a level. -/
def State.withOwnMute (s : State) (b : Bool) : State :=
  { s with wl := { s.wl with ownMute := b } }

theorem exec_muteOn (s : State) : exec .muteOn s = s.onCommand (·.withOwnMute true) := rfl

theorem exec_muteOff (s : State) : exec .muteOff s = s.onCommand (·.withOwnMute false) := rfl

theorem State.withOwnMute_self {s : State} {b : Bool} (h : s.wl.ownMute = b) :
    s.withOwnMute b = s := by
  subst h; rfl

/-- What is due to be sent does not depend on own mute, so a change of it asks for no frame (R72). -/
theorem State.frameDue_withOwnMute (s : State) (b : Bool) :
    (s.withOwnMute b).frameDue = s.frameDue := rfl

theorem State.frame_muted (s : State) (k : FrameKind) :
    (s.frame k).header.sender.flags.muted = s.wl.ownMute := rfl

/-- The wearer mute (R47). -/
theorem State.wearerMute_iff (s : State) :
    s.wearerMute = true ↔ s.wl.ownMute = true ∨ ∃ p ∈ s.ru.peers,
      p.wearer = s.cfg.wearer ∧ p.state = .admitted ∧ p.header.flags.muted = true := by
  have mutes (p : Peer) :
      (s.isMate p && p.state = .admitted && p.header.flags.muted) = true ↔
        p.wearer = s.cfg.wearer ∧ p.state = .admitted ∧ p.header.flags.muted = true := by
    by_cases ha : p.state = .admitted
    · simp [ha, s.isMate_of_admitted ha]
    · simp [ha]
  simp only [State.wearerMute, Bool.or_eq_true, List.any_eq_true, mutes]

/-- Settles O27: both commands are one update of the Wearer Logic, of which the choice of a frame
reads nothing. -/
theorem muteSetsOwnMuteAlone : Obligations.MuteSetsOwnMuteAlone := by
  intro s
  refine ⟨fun hr => ?_, fun hr => ?_, fun hr hm => ?_, fun hr hm => ?_, fun hr => ⟨?_, ?_⟩,
    s.frame_muted, s.frameDue_withOwnMute, s.wearerMute_iff⟩
  · rw [exec_muteOn, State.onCommand_of_running hr]; rfl
  · rw [exec_muteOff, State.onCommand_of_running hr]; rfl
  · rw [exec_muteOn, State.onCommand_of_running hr, State.withOwnMute_self hm]
  · rw [exec_muteOff, State.onCommand_of_running hr, State.withOwnMute_self hm]
  · rw [exec_muteOn, State.onCommand_of_not_running hr]
  · rw [exec_muteOff, State.onCommand_of_not_running hr]

/-! ## The carrier (R52) -/

/-- In a table by strictly ascending station number, what is found first is the lowest-numbered entry
that meets the test. -/
theorem find?_eq_some_iff_lowest {ps : List Peer}
    (h : ps.Pairwise (fun p q => p.station < q.station)) (test : Peer → Bool) (p : Peer) :
    ps.find? test = some p ↔
      (p ∈ ps ∧ test p = true) ∧ ∀ q ∈ ps, test q = true → p.station ≤ q.station := by
  induction ps with
  | nil => simp
  | cons r rs ih =>
    obtain ⟨hlt, hrs⟩ := List.pairwise_cons.1 h
    cases hr : test r with
    | false =>
      have hne : test p = true → p ≠ r := by rintro hp rfl; simp [hp] at hr
      rw [List.find?_cons_of_neg (by simp [hr]), ih hrs]
      simp only [List.mem_cons, forall_eq_or_imp, hr]
      tauto
    | true =>
      rw [List.find?_cons_of_pos hr, Option.some_inj]
      constructor
      · rintro rfl
        refine ⟨⟨by simp, hr⟩, fun q hq _ => ?_⟩
        rcases List.mem_cons.1 hq with rfl | hq
        · exact le_rfl
        · exact (hlt q hq).le
      · rintro ⟨⟨hp, -⟩, hmin⟩
        rcases List.mem_cons.1 hp with rfl | hp
        · rfl
        · exact absurd (hmin r (by simp) hr) (not_le.2 (hlt p hp))

/-- The test by which the carrier of a wearer is found (R52). -/
theorem carrierTest_iff (w : Nat) (p : Peer) :
    (p.seen && p.wearer = w && p.header.flags.lead) = true ↔
      p.wearer = w ∧ (p.state = .admitted ∨ p.state = .lost) ∧ p.header.flags.lead = true := by
  simp only [Bool.and_eq_true, decide_eq_true_eq, Peer.seen_iff]
  tauto

/-- Settles O46: the table stands in ascending order, so the first entry that meets the test is the
lowest-numbered one. -/
theorem carrierIsTheLowestLead : Obligations.CarrierIsTheLowestLead := by
  intro s w hroster
  obtain ⟨-, hsorted, -⟩ := hroster
  refine ⟨fun p => ?_, ?_⟩
  · simp only [State.carrier, find?_eq_some_iff_lowest hsorted, carrierTest_iff, and_imp]
  · simp only [State.carrier, List.find?_eq_none, carrierTest_iff, not_and]

/-! ## The role (R49 to R51) -/

/-- The evaluation from STANDBY that takes the lead (R49). -/
theorem State.takeLead_of_leaderless {s : State} (hready : s.ports.audioReady = true)
    (hmates : ∀ p ∈ s.activeMates, p.header.flags.lead = false) :
    s.takeLead = { s with wl := { s.wl with role := .lead } } := by
  have : s.activeMates.any (·.header.flags.lead) = false :=
    List.any_eq_false.2 fun p hp => by simp [hmates p hp]
  simp [State.takeLead, State.isolated, hready, this]

/-- The evaluation from STANDBY that does not: the station is isolated or a member of M leads (R49). -/
theorem State.takeLead_of_barred {s : State}
    (h : s.ports.audioReady = false ∨ ∃ p ∈ s.activeMates, p.header.flags.lead = true) :
    s.takeLead = s := by
  rcases h with hready | hlead
  · simp [State.takeLead, State.isolated, hready]
  · have : s.activeMates.any (·.header.flags.lead) = true := List.any_eq_true.2 hlead
    simp [State.takeLead, this]

/-- A member of M that the lead gives way to: a lower-numbered lead, or a score above the own one by
more than the margin (R50). -/
theorem State.givesWayTo_iff (s : State) (p : Peer) :
    s.givesWayTo p = true ↔ (p.header.flags.lead = true ∧ p.station < s.own) ∨
      min 255 (s.cu.avg / 128) * 2 ^ s.cfg.margin < p.header.micScore := by
  have hscore : min 255 (s.cu.avg / 128) = s.micScore := rfl
  simp [State.givesWayTo, hscore]

/-- A step-down pending outside QUIET waits (R51). -/
theorem State.stepDownEffect_of_spurt {s : State} (h : s.cu.spurt ≠ .quiet) :
    s.stepDownEffect = s := by
  simp [State.stepDownEffect, h]

/-- In QUIET a pending step-down takes effect; with a member in M no lead is taken after it (R51). -/
theorem State.stepDownEffect_of_quiet {s : State} (hquiet : s.cu.spurt = .quiet)
    (hpending : s.wl.stepDown = true) (hmates : s.activeMates ≠ []) :
    s.stepDownEffect = { s with wl := { s.wl with role := .standby, stepDown := false } } := by
  have stays (wl : WearerLogic) : ({ s with wl := wl } : State).activeMates = s.activeMates := rfl
  simp [State.stepDownEffect, hquiet, hpending, stays, hmates]

theorem State.evaluateRole_of_standby {s : State} (h : s.wl.role = .standby) :
    s.evaluateRole = s.takeLead := by
  simp [State.evaluateRole, h]

/-- From LEAD nothing changes with a step-down pending, or with nobody in M to give way to (R50). -/
theorem State.evaluateRole_of_kept {s : State} (hlead : s.wl.role = .lead)
    (h : s.wl.stepDown = true ∨ ∀ p ∈ s.activeMates, ¬s.givesWayTo p = true) :
    s.evaluateRole = s := by
  rcases h with hpending | hnone
  · simp [State.evaluateRole, hlead, hpending]
  · have : s.activeMates.any s.givesWayTo = false := List.any_eq_false.2 hnone
    simp [State.evaluateRole, hlead, this]

/-- From LEAD a member of M to give way to sets a step-down pending (R50). -/
theorem State.evaluateRole_of_outdone {s : State} (hlead : s.wl.role = .lead)
    (hnot : s.wl.stepDown = false) {p : Peer} (hp : p ∈ s.activeMates)
    (hwins : s.givesWayTo p = true) :
    s.evaluateRole = State.stepDownEffect { s with wl := { s.wl with stepDown := true } } := by
  have : s.activeMates.any s.givesWayTo = true := List.any_eq_true.2 ⟨p, hp, hwins⟩
  simp [State.evaluateRole, hlead, hnot, this]

/-- Settles O48, clause by clause over the two roles: after a step-down in QUIET the member of M that
the lead gave way to keeps M from being empty, so the lead is not taken back at once. -/
theorem roleIsEvaluated : Obligations.RoleIsEvaluated := by
  intro s
  simp only [← State.mem_activeMates, ← State.givesWayTo_iff]
  refine ⟨fun hstandby hready hmates => ?_, fun hstandby hbarred => ?_, fun hlead hkept => ?_,
    fun p hlead hnot ⟨hp, hwins⟩ => ?_⟩
  · rw [State.evaluateRole_of_standby hstandby, State.takeLead_of_leaderless hready hmates]
  · rw [State.evaluateRole_of_standby hstandby, State.takeLead_of_barred hbarred]
  · exact State.evaluateRole_of_kept hlead (hkept.imp_right fun h p hp hw => h p ⟨hp, hw⟩)
  · rw [State.evaluateRole_of_outdone hlead hnot hp hwins]
    exact ⟨fun hquiet => State.stepDownEffect_of_quiet hquiet rfl (List.ne_nil_of_mem hp),
      fun hspurt => State.stepDownEffect_of_spurt hspurt⟩

end Sys2Proof.Machine
end

section
/-! PROOFS. Capture and sending (chapter 4): the spurt at a boundary, the choice of a frame, and the
runs that a TALK takes from the send queue. -/

namespace Sys2Proof.Machine

/-! ## The spurt (R59 to R61) -/

/-- What the Capture Unit makes of a boundary: the spurt state and count that it leaves, the
spurt-sent mark of a spurt still in progress, and the VOICE entry. -/
def State.CaptureGives (s : State) (mic : Block) (sp : Spurt) (n : Nat) (sent : Bool)
    (e : Option SendEntry) : Prop :=
  (s.capture mic).1.cu.spurt = sp ∧ (s.capture mic).1.cu.hangover = n ∧
  (sp ≠ .quiet → (s.capture mic).1.cu.spurtSent = sent) ∧ (s.capture mic).2 = e

/-- The entry of a block queued as it is (R60). -/
def State.blockEntry (s : State) (mic : Block) (isStart isEnd : Bool) : SendEntry :=
  ⟨.voice, s.cu.captureCount + 1, mic, mic.level, isStart, isEnd⟩

/-- In QUIET there is no spurt-sent mark to keep. -/
theorem State.CaptureGives.of_quiet {s : State} {mic : Block} {n : Nat} {sent : Bool}
    {e : Option SendEntry} (h : s.CaptureGives mic .quiet n sent e) (sent' : Bool) :
    s.CaptureGives mic .quiet n sent' e := by
  obtain ⟨hspurt, hcount, -, hentry⟩ := h
  exact ⟨hspurt, hcount, fun hne => absurd rfl hne, hentry⟩

theorem State.sending_of_spurt {s : State} (h : s.cu.spurt ≠ .quiet) :
    s.sending = s.cu.spurtSent := by
  simp [State.sending, h]

theorem State.sending_of_quiet {s : State} (h : s.cu.spurt = .quiet) : s.sending = false := by
  simp [State.sending, h]

theorem State.startsSent_iff (s : State) :
    s.startsSent = true ↔ s.wl.role = .lead ∧ s.wearerMute = false := by
  simp [State.startsSent]

/-- A block counts and is measured before the mute is looked at, which reads neither. -/
theorem State.capture_eq (s : State) (mic : Block) :
    s.capture mic = if s.sending && s.wearerMute then (s.measure mic).muteSpurt
      else (s.measure mic).advanceSpurt mic := rfl

/-- A sent spurt of a muted wearer ends at once with a zeroed END entry (R61). -/
theorem State.captureGives_of_muted {s : State} (mic : Block) (hspurt : s.cu.spurt ≠ .quiet)
    (hsent : s.cu.spurtSent = true) (hmute : s.wearerMute = true) :
    s.CaptureGives mic .quiet 0 false
      (some ⟨.voice, s.cu.captureCount + 1, Block.silence, 0, false, true⟩) := by
  have hcut : s.capture mic = (s.measure mic).muteSpurt := by
    simp [State.capture_eq, State.sending_of_spurt hspurt, hsent, hmute]
  rw [State.CaptureGives, hcut]
  exact ⟨rfl, rfl, fun _ => rfl, rfl⟩

/-- Otherwise the spurt takes the step `st` of R59's table; whether its block is sent is decided on
a START and kept from then on (R60). -/
theorem State.captureGives_of_step {s : State} {mic : Block} {st : SpurtStep}
    (hgoes : (s.sending && s.wearerMute) = false)
    (hst : spurtStep s.cfg.hangover s.cu.spurt s.cu.hangover (s.isVoice mic) = st) {sent : Bool}
    (hsent : (if st.isStart then s.startsSent else s.sending) = sent) :
    s.CaptureGives mic st.spurt st.hangover sent
      (if sent then some (s.blockEntry mic st.isStart st.isEnd) else none) := by
  have hadvance : s.capture mic = (s.measure mic).advanceSpurt mic := by
    simp [State.capture_eq, hgoes]
  subst hst hsent
  rw [State.CaptureGives, hadvance]
  refine ⟨rfl, rfl, fun hne => ?_, rfl⟩
  exact (congrArg (_ && ·) (decide_eq_true hne)).trans (Bool.and_true _)

/-- A block in QUIET: nothing goes on, and only a START is decided on (R59, R60). -/
theorem State.captureGives_of_quiet {s : State} {mic : Block} (hquiet : s.cu.spurt = .quiet) :
    (s.isVoice mic = false → s.CaptureGives mic .quiet 0 false none) ∧
    (s.isVoice mic = true → s.CaptureGives mic .talking 0 s.startsSent
      (if s.startsSent then some (s.blockEntry mic true false) else none)) := by
  have hnot : s.sending = false := State.sending_of_quiet hquiet
  have hgoes : (s.sending && s.wearerMute) = false := by simp [hnot]
  constructor
  · intro hv
    exact State.captureGives_of_step (st := ⟨.quiet, 0, false, false⟩) hgoes
      (by rw [hquiet, hv]; rfl) hnot
  · intro hv
    exact State.captureGives_of_step (st := ⟨.talking, 0, true, false⟩) hgoes
      (by rw [hquiet, hv]; rfl) rfl

/-- A block of a spurt in progress keeps what its START decided (R60). -/
theorem State.captureGives_of_spurt {s : State} {mic : Block} {sp : Spurt} {n : Nat} {isEnd : Bool}
    (hspurt : s.cu.spurt ≠ .quiet) (hgoes : ¬(s.cu.spurtSent = true ∧ s.wearerMute = true))
    (hst : spurtStep s.cfg.hangover s.cu.spurt s.cu.hangover (s.isVoice mic) =
      ⟨sp, n, false, isEnd⟩) :
    s.CaptureGives mic sp n s.cu.spurtSent
      (if s.cu.spurtSent then some (s.blockEntry mic false isEnd) else none) := by
  have hsending : s.sending = s.cu.spurtSent := State.sending_of_spurt hspurt
  refine State.captureGives_of_step (st := ⟨sp, n, false, isEnd⟩) ?_ hst hsending
  simpa [hsending] using hgoes

/-! R59's rows of HANGOVER with a block that is not a voice block. -/

theorem spurtStep_hangover_short {len count : Nat} (h : count + 1 < len) :
    spurtStep len .hangover count false = ⟨.hangover, count + 1, false, false⟩ := if_pos h

theorem spurtStep_hangover_full {len count : Nat} (h : count + 1 = len) :
    spurtStep len .hangover count false = ⟨.quiet, 0, false, true⟩ := if_neg (by omega)

/-- Settles O24, row by row of R59's table. -/
theorem spurtFollowsItsTable : Obligations.SpurtFollowsItsTable := by
  intro mic s _ voice seq sends after entry goesOn
  have loud (h : voice) : s.isVoice mic = true := decide_eq_true h
  have soft (h : ¬voice) : s.isVoice mic = false := decide_eq_false h
  refine ⟨State.captureGives_of_muted mic,
    fun hquiet hv => (State.captureGives_of_quiet hquiet).1 (soft hv),
    fun hquiet hv hsends => ?_, fun hquiet hv hnot => ?_,
    fun hgoes => ⟨fun hsp hv => ?_, fun hsp hv => ?_, fun hsp hv => ?_, fun hsp hv hshort => ?_,
      fun hsp hv hfull => ?_⟩⟩
  · have hstart : s.startsSent = true := s.startsSent_iff.2 hsends
    have hgives := (State.captureGives_of_quiet hquiet).2 (loud hv)
    rw [hstart] at hgives
    exact hgives
  · have hstart : s.startsSent = false := Bool.eq_false_iff.2 (mt s.startsSent_iff.1 hnot)
    have hgives := (State.captureGives_of_quiet hquiet).2 (loud hv)
    rw [hstart] at hgives
    exact hgives
  · exact State.captureGives_of_spurt (by simp [hsp]) hgoes (by rw [hsp, loud hv]; rfl)
  · exact State.captureGives_of_spurt (by simp [hsp]) hgoes (by rw [hsp, soft hv]; rfl)
  · exact State.captureGives_of_spurt (by simp [hsp]) hgoes (by rw [hsp, loud hv]; rfl)
  · exact State.captureGives_of_spurt (by simp [hsp]) hgoes
      (by rw [hsp, soft hv, spurtStep_hangover_short hshort])
  · exact (State.captureGives_of_spurt (by simp [hsp]) hgoes
      (by rw [hsp, soft hv, spurtStep_hangover_full hfull])).of_quiet false

/-! ## The choice of a frame (R68, R72) -/

theorem State.talkDue_of_empty {s : State} (h : s.sa.queue = []) : s.talkDue = false := by
  simp [State.talkDue, h]

/-- TALK is due on a queue that holds an entry by one of R68's five conditions. -/
theorem State.talkDue_of_oldest {s : State} {oldest : SendEntry} {rest : List SendEntry}
    (h : s.sa.queue = oldest :: rest) :
    s.talkDue = true ↔ s.cfg.packCount ≤ (s.tagged .voice).length ∨
      s.cfg.packCount ≤ (s.tagged .call).length ∨
      (∃ e ∈ s.sa.queue, e.tag = .voice ∧ e.isEnd = true) ∨
      s.cfg.packWait ≤ s.ageMs oldest ∨ s.ports.audioReady = false := by
  have hend : (s.tagged .voice).any (·.isEnd) = true ↔
      ∃ e ∈ s.sa.queue, e.tag = .voice ∧ e.isEnd = true := by
    simp [State.tagged]
  have hisolated : s.isolated = true ↔ s.ports.audioReady = false := by simp [State.isolated]
  rw [← hend, ← hisolated]
  simp only [State.talkDue, h, Bool.or_eq_true, decide_eq_true_eq, or_assoc]

theorem State.frameDue_iff (s : State) :
    s.frameDue = true ↔ s.running ∧ s.chooseKind ≠ none := by
  simp [State.frameDue, Option.isSome_iff_ne_none]

/-- Settles O8: TALK by its queue empty or not, and the ranks by the tests of the choice, in
order. -/
theorem frameChoiceIsRanked : Obligations.FrameChoiceIsRanked := by
  intro s count
  refine ⟨?_, fun hl => ?_, fun hl hh => ?_, fun hl hh hp => ?_, fun hl hh hp ht => ?_,
    fun hl hh hp ht => ?_, s.frameDue_iff⟩
  · cases hq : s.sa.queue with
    | nil => simp [State.talkDue_of_empty hq]
    | cons oldest rest =>
      rw [State.talkDue_of_oldest hq, hq]
      constructor
      · exact fun h => ⟨oldest, rest, rfl, h⟩
      · rintro ⟨_, _, hcons, h⟩
        obtain ⟨rfl, rfl⟩ := List.cons.inj hcons
        exact h
  · simp [State.chooseKind, hl]
  · simp [State.chooseKind, hl, hh]
  · simp [State.chooseKind, hl, hh, hp]
  · simp [State.chooseKind, hl, hh, hp, ht]
  · simp [State.chooseKind, hl, hh, hp, ht]

/-! ## The runs of a TALK (R73) -/

theorem length_takeRun_le (n : Nat) (l : List SendEntry) : (takeRun n l).length ≤ n := by
  fun_induction takeRun n l with
  | case1 => simp
  | case2 => simp
  | case3 => simp
  | case4 n e f rest hnext ih => exact Nat.succ_le_succ ih
  | case5 => simp

/-- A run that is not empty begins with the oldest entry. -/
theorem head?_takeRun {n : Nat} {l : List SendEntry} {e : SendEntry}
    (h : (takeRun n l).head? = some e) : l.head? = some e := by
  fun_cases takeRun n l with
  | case1 => simp [takeRun] at h
  | case2 => simp [takeRun] at h
  | case3 => exact h
  | case4 n e f rest hnext => rwa [takeRun, if_pos hnext] at h
  | case5 n e f rest hgap => rwa [takeRun, if_neg hgap] at h

/-- The sequence numbers of a run are consecutive. -/
theorem isChain_takeRun (n : Nat) (l : List SendEntry) :
    (takeRun n l).IsChain (fun a b => b.seq = a.seq + 1) := by
  fun_induction takeRun n l with
  | case1 => exact .nil
  | case2 => exact .nil
  | case3 => exact .singleton _
  | case4 n e f rest hnext ih =>
    refine List.isChain_cons.2 ⟨fun b hb => ?_, ih⟩
    have hhead : some f = some b := head?_takeRun hb
    obtain rfl := Option.some.inj hhead
    exact hnext
  | case5 => exact .singleton _

/-- A run is the front of its list, and ends at the limit, the list's end or a gap. -/
theorem takeRun_maximal (n : Nat) (l : List SendEntry) :
    ∃ rest, l = takeRun n l ++ rest ∧ ((takeRun n l).length = n ∨ rest = [] ∨
      ∃ a b, (takeRun n l).getLast? = some a ∧ rest.head? = some b ∧ b.seq ≠ a.seq + 1) := by
  fun_induction takeRun n l with
  | case1 l => exact ⟨l, rfl, .inl rfl⟩
  | case2 => exact ⟨[], rfl, .inr (.inl rfl)⟩
  | case3 => exact ⟨[], rfl, .inr (.inl rfl)⟩
  | case4 n e f rest hnext ih =>
    obtain ⟨left, hsplit, hstop⟩ := ih
    refine ⟨left, by rw [List.cons_append, ← hsplit], ?_⟩
    rcases hstop with hlen | hend | ⟨a, b, ha, hb, hgap⟩
    · exact .inl (by simp [hlen])
    · exact .inr (.inl hend)
    · exact .inr (.inr ⟨a, b, by simp [List.getLast?_cons, ha], hb, hgap⟩)
  | case5 n e f rest hgap => exact ⟨f :: rest, rfl, .inr (.inr ⟨e, f, rfl, rfl, hgap⟩)⟩

/-- In a list of consecutive sequence numbers the entry at `i` is `i` after the first one. -/
theorem seq_of_isChain {l : List SendEntry} {e x : SendEntry} {i : Nat}
    (h : (e :: l).IsChain (fun a b => b.seq = a.seq + 1)) (hx : (e :: l)[i]? = some x) :
    x.seq = e.seq + BitVec.ofNat 16 i := by
  induction l generalizing e i with
  | nil =>
    cases i with
    | zero => simp_all
    | succ i => simp at hx
  | cons f l ih =>
    obtain ⟨hf, hchain⟩ := List.isChain_cons_cons.1 h
    cases i with
    | zero => simp_all
    | succ i =>
      have hstep : x.seq = f.seq + BitVec.ofNat 16 i := ih hchain hx
      rw [hstep, hf, BitVec.add_assoc, BitVec.add_comm 1, BitVec.ofNat_add]
      rfl

/-- What leaves the queue is the front of the entries of its tag. -/
theorem filter_dropTagged_same (t : Tag) (n : Nat) (q : List SendEntry) :
    (dropTagged t n q).filter (fun e => e.tag = t) = (q.filter (fun e => e.tag = t)).drop n := by
  fun_induction dropTagged t n q with
  | case1 => rfl
  | case2 => rfl
  | case3 n e q htag ih => simpa [htag] using ih
  | case4 n e q htag ih => simpa [htag] using ih

theorem filter_dropTagged_other (t : Tag) (n : Nat) (q : List SendEntry) :
    (dropTagged t n q).filter (fun e => e.tag ≠ t) = q.filter (fun e => e.tag ≠ t) := by
  fun_induction dropTagged t n q with
  | case1 => rfl
  | case2 => rfl
  | case3 n e q htag ih => simpa [htag] using ih
  | case4 n e q htag ih => simpa [htag] using ih

/-- Settles O10: the run as a list (its front, chain and end), then its section, then the queue. -/
theorem talkTakesConsecutiveRuns : Obligations.TalkTakesConsecutiveRuns := by
  intro s t tagged run
  have hchain : run.IsChain (fun a b => b.seq = a.seq + 1) := isChain_takeRun _ _
  obtain ⟨rest, hsplit, hstop⟩ := takeRun_maximal sectionLimit tagged
  have hfront : tagged = run ++ rest := hsplit
  refine ⟨⟨rest, hsplit, hstop⟩, length_takeRun_le _ _, fun i a b ha hb => ?_,
    fun i e he => ⟨?_, ?_⟩, List.length_map _, fun hrun => ?_, ?_, filter_dropTagged_other t _ _⟩
  · obtain ⟨_, rfl⟩ := List.getElem?_eq_some_iff.1 ha
    obtain ⟨hi, rfl⟩ := List.getElem?_eq_some_iff.1 hb
    exact List.isChain_iff_getElem.1 hchain i hi
  · cases hrun : run with
    | nil => simp [hrun] at he
    | cons first others =>
      rw [hrun] at hchain he
      exact seq_of_isChain hchain he
  · simp [State.talkSection, he, SendEntry.air]
  · rw [hrun]; rfl
  · have hleft : (dropTagged t run.length s.sa.queue).filter (fun e => e.tag = t) = rest := by
      rw [filter_dropTagged_same]
      exact (congrArg _ hfront).trans (List.drop_left)
    rw [hfront, ← hleft]

end Sys2Proof.Machine
end

section
/-! PROOFS. The receive queues (chapter 5): where a block is placed in a queue, and the playout step
at a boundary. -/

namespace Sys2Proof.Machine

/-! ## Entries in order (R76) -/

/-- A sequence number that the list does not hold is put between those at a smaller and those at a
larger distance. -/
theorem insertRx_between {next : Seq} {e : RxEntry} {l : List RxEntry}
    (hsorted : l.Pairwise (fun a b => seqAhead next a.seq < seqAhead next b.seq))
    (hnew : ∀ x ∈ l, seqAhead next x.seq ≠ seqAhead next e.seq) :
    ∃ before after, l = before ++ after ∧ insertRx next e l = before ++ e :: after ∧
      (∀ x ∈ before, seqAhead next x.seq < seqAhead next e.seq) ∧
      ∀ x ∈ after, seqAhead next e.seq < seqAhead next x.seq := by
  induction l with
  | nil => exact ⟨[], [], rfl, rfl, by simp, by simp⟩
  | cons x xs ih =>
    obtain ⟨hx, hxs⟩ := List.pairwise_cons.1 hsorted
    obtain ⟨hne, hnew'⟩ := List.forall_mem_cons.1 hnew
    by_cases hlt : seqAhead next e.seq < seqAhead next x.seq
    · refine ⟨[], x :: xs, rfl, if_pos hlt, by simp, List.forall_mem_cons.2 ⟨hlt, ?_⟩⟩
      exact fun y hy => hlt.trans (hx y hy)
    · obtain ⟨before, after, hsplit, hins, hbefore, hafter⟩ := ih hxs hnew'
      refine ⟨x :: before, after, by rw [hsplit]; rfl, ?_,
        List.forall_mem_cons.2 ⟨by omega, hbefore⟩, hafter⟩
      rw [insertRx, if_neg hlt, hins]
      rfl

/-- The entry at the largest distance is put last. -/
theorem insertRx_last {next : Seq} {e : RxEntry} {l : List RxEntry}
    (h : ∀ x ∈ l, seqAhead next x.seq ≤ seqAhead next e.seq) :
    insertRx next e l = l ++ [e] := by
  induction l with
  | nil => rfl
  | cons x xs ih =>
    obtain ⟨hx, hxs⟩ := List.forall_mem_cons.1 h
    rw [insertRx, if_neg (by omega), ih hxs]
    rfl

/-- The last of the entries held is the one at the largest offset. -/
theorem RxQueue.Ok.getLast?_of_max {q : RxQueue} (h : q.Ok) {last : RxEntry}
    (hmem : last ∈ q.entries) (hmax : ∀ x ∈ q.entries, q.offset x.seq ≤ q.offset last.seq) :
    q.entries.getLast? = some last := by
  obtain ⟨-, -, -, hsorted, -⟩ := h
  obtain ⟨before, after, hsplit⟩ := List.append_of_mem hmem
  cases after with
  | nil => simp [hsplit]
  | cons y ys =>
    rw [hsplit, List.pairwise_append] at hsorted
    obtain ⟨-, hafter, -⟩ := hsorted
    have hlt : q.offset last.seq < q.offset y.seq := List.rel_of_pairwise_cons hafter (by simp)
    have hle : q.offset y.seq ≤ q.offset last.seq := hmax y (by simp [hsplit])
    omega

/-! ## Placement by offset: the rows of section 5.3's table (R80 to R83) -/

section
variable {q : RxQueue} {e : RxEntry} (depth : Nat)

theorem RxQueue.holds_iff : q.holds e.seq = true ↔ ∃ x ∈ q.entries, x.seq = e.seq := by
  simp [RxQueue.holds]

theorem RxQueue.place_of_idle (h : q.mode = .idle) :
    q.place depth e = (q.start depth e, false) := if_pos h

theorem RxQueue.place_of_window (hmode : q.mode ≠ .idle)
    (hoff : q.offset e.seq < windowSize) :
    q.place depth e = (if q.holds e.seq then q else q.insert e, false) := by
  rw [RxQueue.place, if_neg hmode, if_pos hoff]

theorem RxQueue.place_of_beyond (hmode : q.mode ≠ .idle)
    (hlow : windowSize ≤ q.offset e.seq) (hhigh : q.offset e.seq < 32768) :
    q.place depth e = q.placeBeyond depth e := by
  rw [RxQueue.place, if_neg hmode, if_neg (Nat.not_lt.2 hlow), if_pos hhigh]

theorem RxQueue.place_of_before (hmode : q.mode ≠ .idle) (hoff : 32768 ≤ q.offset e.seq) :
    q.place depth e = (if q.mode = .playing then q.countLate else q.placeBefore e, false) := by
  have hwindow : ¬q.offset e.seq < windowSize := Nat.not_lt.2 (Nat.le_trans (by decide) hoff)
  rw [RxQueue.place, if_neg hmode, if_neg hwindow, if_neg (Nat.not_lt.2 hoff)]
  split <;> rfl

/-- Inside the window a sequence not held goes to its place in order (R81). -/
theorem RxQueue.Ok.insert_between (h : q.Ok) (hnew : ∀ x ∈ q.entries, x.seq ≠ e.seq) :
    ∃ before after, q.entries = before ++ after ∧
      q.insert e = { q with entries := before ++ e :: after } ∧
      (∀ x ∈ before, q.offset x.seq < q.offset e.seq) ∧
      ∀ x ∈ after, q.offset e.seq < q.offset x.seq := by
  obtain ⟨-, -, -, hsorted, -⟩ := h
  obtain ⟨before, after, hsplit, hins, hbefore, hafter⟩ :=
    insertRx_between hsorted fun x hx heq => hnew x hx (q.offset_inj heq)
  exact ⟨before, after, hsplit, by rw [RxQueue.insert, hins], hbefore, hafter⟩

/-- Before *next* in PRIMING the span to the last entry decides (R83). -/
theorem RxQueue.placeBefore_of_near {last : RxEntry} (h : q.entries.getLast? = some last)
    (hspan : seqAhead e.seq last.seq + 1 ≤ windowSize) :
    q.placeBefore e = { q with next := e.seq, entries := e :: q.entries } := by
  simp only [RxQueue.placeBefore, h, if_pos hspan]

theorem RxQueue.placeBefore_of_far {last : RxEntry} (h : q.entries.getLast? = some last)
    (hspan : windowSize < seqAhead e.seq last.seq + 1) : q.placeBefore e = q.countLate := by
  simp only [RxQueue.placeBefore, h, if_neg (Nat.not_le.2 hspan)]

end

/-! ## Beyond the window (R84, R85) -/

/-- For a sequence `s` beyond the window, an entry of the window is at or after `s - 15` by offsets
exactly when it is by the modular difference. -/
theorem RxQueue.offset_slide_le_iff {q : RxQueue} {s x : Seq} (hlow : 16 ≤ q.offset s)
    (hhigh : q.offset s < 32768) (hx : q.offset x < 16) :
    q.offset (s - 15) ≤ q.offset x ↔ seqAhead (s - 15) x < 32768 := by
  simp only [RxQueue.offset, seqAhead] at *
  bv_omega

/-- In the window that ends at `s`, `s` is the farthest from the new *next*. -/
theorem RxQueue.seqAhead_slide_le {q : RxQueue} {s x : Seq} (hlow : 16 ≤ q.offset s)
    (hhigh : q.offset s < 32768) (hx : q.offset x < 16) (hkept : seqAhead (s - 15) x < 32768) :
    seqAhead (s - 15) x ≤ seqAhead (s - 15) s := by
  simp only [RxQueue.offset, seqAhead] at *
  bv_omega

/-- The entries that stay when the window slides to end at `s`. -/
def RxQueue.keptFor (q : RxQueue) (s : Seq) : List RxEntry :=
  q.entries.filter (fun x => seqAhead (s - 15) x.seq < 32768)

section
variable {q : RxQueue} {e : RxEntry} (depth : Nat)

theorem RxQueue.Ok.filter_slide (h : q.Ok) (hlow : 16 ≤ q.offset e.seq)
    (hhigh : q.offset e.seq < 32768) :
    q.entries.filter (fun x => q.offset (e.seq - 15) ≤ q.offset x.seq) = q.keptFor e.seq := by
  obtain ⟨-, -, hwindow, -⟩ := h
  refine List.filter_congr fun x hx => decide_eq_decide.2 ?_
  exact RxQueue.offset_slide_le_iff hlow hhigh (hwindow x hx).1

/-- With nothing kept the queue starts again on the block (R85). -/
theorem RxQueue.Ok.placeBeyond_of_none_kept (h : q.Ok) (hlow : 16 ≤ q.offset e.seq)
    (hhigh : q.offset e.seq < 32768) (hkept : q.keptFor e.seq = []) :
    q.placeBeyond depth e =
      ({ q.start depth e with
         counts := { q.counts with resyncs := countUp q.counts.resyncs 1 } }, true) := by
  simp only [RxQueue.placeBeyond, h.filter_slide hlow hhigh, hkept, List.isEmpty_nil, if_true]

/-- With an entry kept the window slides to end at the block (R84). -/
theorem RxQueue.Ok.placeBeyond_of_kept (h : q.Ok) (hlow : 16 ≤ q.offset e.seq)
    (hhigh : q.offset e.seq < 32768) (hkept : q.keptFor e.seq ≠ []) :
    let removed := q.entries.length - (q.keptFor e.seq).length
    q.placeBeyond depth e =
      ({ q with
         next := e.seq - 15, entries := q.keptFor e.seq ++ [e]
         counts := { q.counts with slides := countUp q.counts.slides removed } },
       decide (0 < removed)) := by
  have hlast : ∀ x ∈ q.keptFor e.seq,
      seqAhead (e.seq - 15) x.seq ≤ seqAhead (e.seq - 15) e.seq := by
    intro x hx
    obtain ⟨hmem, hin⟩ := List.mem_filter.1 hx
    obtain ⟨-, -, hwindow, -⟩ := h
    exact RxQueue.seqAhead_slide_le hlow hhigh (hwindow x hmem).1 (of_decide_eq_true hin)
  simp only [RxQueue.placeBeyond, h.filter_slide hlow hhigh, List.isEmpty_iff, if_neg hkept,
    RxQueue.insert, insertRx_last hlast]

end

/-! ## The blocks of a section (R16, R78) -/

theorem length_numberBlocks (first : Seq) (blocks : List AirBlock) :
    (numberBlocks first blocks).length = blocks.length := by
  fun_induction numberBlocks first blocks with
  | case1 => rfl
  | case2 first b bs ih => exact congrArg Nat.succ ih

theorem getElem?_numberBlocks {first : Seq} {blocks : List AirBlock} {i : Nat} {a : AirBlock}
    (h : blocks[i]? = some a) :
    (numberBlocks first blocks)[i]? =
      some ⟨first + BitVec.ofNat 16 i, a.block, a.level, a.isEnd⟩ := by
  induction blocks generalizing first i with
  | nil => simp at h
  | cons b bs ih =>
    cases i with
    | zero =>
      obtain rfl : b = a := by simpa using h
      simp [numberBlocks]
    | succ i =>
      have hshift : first + 1 + BitVec.ofNat 16 i = first + BitVec.ofNat 16 (i + 1) := by
        rw [BitVec.add_assoc, BitVec.add_comm 1, BitVec.ofNat_add]
        rfl
      rw [← hshift]
      exact ih (first := first + 1) (by simpa using h)

/-- Settles O40, row by row of section 5.3's table. -/
theorem blocksArePlacedByOffset : Obligations.BlocksArePlacedByOffset := by
  refine ⟨fun depth q e => ⟨fun hidle => ?_, fun hmode hoff hheld => ?_,
      fun hmode hoff hnew hok => ?_, fun hplay hoff => ?_,
      fun last hlast hprime hoff hok hmax => ⟨fun hspan => ?_, fun hspan => ?_⟩⟩,
    fun depth q e hmode hok hlow hhigh => ⟨fun hkept => ?_, fun hkept => ?_⟩,
    fun first blocks => ⟨length_numberBlocks first blocks, fun i a h => getElem?_numberBlocks h⟩,
    fun depth q => ⟨rfl, fun e rest => rfl⟩⟩
  · rw [RxQueue.place_of_idle depth hidle]
    rfl
  · rw [RxQueue.place_of_window depth hmode hoff, if_pos (RxQueue.holds_iff.2 hheld)]
  · have hnot : ¬q.holds e.seq = true := by
      rw [RxQueue.holds_iff]
      exact fun ⟨x, hx, hseq⟩ => hnew x hx hseq
    obtain ⟨before, after, hsplit, hins, hbefore, hafter⟩ := hok.insert_between hnew
    refine ⟨before, after, hsplit, ?_, hbefore, hafter⟩
    rw [RxQueue.place_of_window depth hmode hoff, if_neg hnot, hins]
  · rw [RxQueue.place_of_before depth (by simp [hplay]) hoff, if_pos hplay]
    rfl
  · rw [RxQueue.place_of_before depth (by simp [hprime]) hoff, if_neg (by simp [hprime]),
      RxQueue.placeBefore_of_near (hok.getLast?_of_max hlast hmax) hspan]
  · rw [RxQueue.place_of_before depth (by simp [hprime]) hoff, if_neg (by simp [hprime]),
      RxQueue.placeBefore_of_far (hok.getLast?_of_max hlast hmax) hspan]
    rfl
  · exact (RxQueue.place_of_beyond depth hmode hlow hhigh).trans
      (hok.placeBeyond_of_kept depth hlow hhigh hkept)
  · exact (RxQueue.place_of_beyond depth hmode hlow hhigh).trans
      (hok.placeBeyond_of_none_kept depth hlow hhigh hkept)

/-! ## The playout step by mode and by what is held at *next* (R86) -/

section
variable {q : RxQueue} (depth : Nat)

theorem RxQueue.playStep_of_idle (h : q.mode = .idle) :
    q.playStep depth = (q, Output.silence) := by
  simp only [RxQueue.playStep, h]

theorem RxQueue.playStep_of_priming (h : q.mode = .priming) :
    q.playStep depth = (q.primingStep depth, Output.silence) := by
  simp only [RxQueue.playStep, h]

theorem RxQueue.playStep_of_held {e : RxEntry} (h : q.mode = .playing) (hnext : q.atNext = some e) :
    q.playStep depth = (q.take depth e, Output.ofReal e.realBlock) := by
  simp only [RxQueue.playStep, h, hnext]

theorem RxQueue.playStep_of_missing (h : q.mode = .playing) (hnext : q.atNext = none) :
    q.playStep depth =
      (q.concealStep, ⟨concealBlock (min 255 (q.conceal + 1)) q.lastReal, 0, false⟩) := by
  simp only [RxQueue.playStep, h, hnext]

/-- Priming ends at the depth, at the end of the wait or on a held END (R87). -/
theorem RxQueue.primingStep_eq : q.primingStep depth =
    { q with
      primeWait := q.primeWait - 1
      mode := if depth ≤ q.entries.length ∨ q.primeWait ≤ 1 ∨ ∃ e ∈ q.entries, e.isEnd = true
        then .playing else .priming } := by
  have hwait : q.primeWait - 1 = 0 ↔ q.primeWait ≤ 1 := Nat.sub_eq_zero_iff_le
  simp only [RxQueue.primingStep, Bool.or_eq_true, decide_eq_true_eq, List.any_eq_true, or_assoc,
    hwait]
  rfl

/-! ## Taking the entry at *next* (R88, R89) -/

/-- The entries that stay behind when the one at *next* is taken. -/
def RxQueue.behindNext (q : RxQueue) : List RxEntry := q.entries.filter (fun x => x.seq ≠ q.next)

theorem RxQueue.take_of_plain {e : RxEntry} (h : e.isEnd = false) : q.take depth e =
    { q with entries := q.behindNext, next := q.next + 1, conceal := 0,
             lastReal := some e.realBlock } := by
  simp only [RxQueue.take, RxQueue.behindNext, h, Bool.false_eq_true, if_false]

theorem RxQueue.take_of_last_end {e : RxEntry} (h : e.isEnd = true) (hrest : q.behindNext = []) :
    q.take depth e = RxQueue.cleared q.counts := by
  rw [RxQueue.behindNext] at hrest
  simp only [RxQueue.take, h, if_true, hrest]

theorem RxQueue.take_of_end {e x : RxEntry} {after : List RxEntry} (h : e.isEnd = true)
    (hrest : q.behindNext = x :: after) : q.take depth e =
      { q with mode := .priming, next := x.seq, primeWait := depth, conceal := 0,
               lastReal := some e.realBlock, entries := q.behindNext } := by
  rw [RxQueue.behindNext] at hrest ⊢
  simp only [RxQueue.take, h, if_true, hrest]

/-- What is left behind *next* is in order, so its first entry is the earliest (R76, R89). -/
theorem RxQueue.Ok.behindNext_sorted (h : q.Ok) :
    q.behindNext.Pairwise (fun a b => q.offset a.seq < q.offset b.seq) := by
  obtain ⟨-, -, -, hsorted, -⟩ := h
  exact hsorted.filter _

/-! ## Concealing and breaking (R90, R91) -/

theorem RxQueue.concealStep_of_break (hrun : 8 ≤ min 255 (q.conceal + 1))
    (hempty : q.entries = []) :
    q.concealStep = RxQueue.cleared { q.counts with
      concealed := countUp q.counts.concealed 1, breaks := countUp q.counts.breaks 1 } := by
  simp only [RxQueue.concealStep, hrun, hempty, decide_true, List.isEmpty_nil, Bool.and_self,
    if_true]

theorem RxQueue.concealStep_of_goes_on (h : min 255 (q.conceal + 1) < 8 ∨ q.entries ≠ []) :
    q.concealStep = { q with
      next := q.next + 1, conceal := min 255 (q.conceal + 1)
      counts := { q.counts with concealed := countUp q.counts.concealed 1 } } := by
  have hnot : ¬(8 ≤ min 255 (q.conceal + 1) ∧ q.entries = []) := fun ⟨hrun, hempty⟩ =>
    h.elim (Nat.not_lt.2 hrun) (· hempty)
  rw [RxQueue.concealStep, if_neg (by simpa using hnot)]

end

theorem sample_map {b : Block} {i : Nat} (f : Sample → Sample) (hi : i < 32) :
    (b.map f).sample i = f (b.sample i) := by
  have hlen : i < b.samples.length := by rw [b.len]; exact hi
  simp [Block.sample, Block.map, hlen]

/-- The fading of the last real block halves each sample once for each boundary of the run (R90). -/
theorem sample_concealBlock {k : Nat} {b : RealBlock} {i : Nat} (hk : k ≤ 3) (hi : i < 32) :
    ((concealBlock k (some b)).sample i).toInt = (b.block.sample i).toInt / 2 ^ k := by
  have hfade : concealBlock k (some b) = b.block.map (fun x => x.sshiftRight k) := if_pos hk
  rw [hfade, sample_map _ hi, BitVec.toInt_sshiftRight, Int.shiftRight_eq_div_pow]
  norm_cast

theorem concealBlock_silence {k : Nat} {last : Option RealBlock} (h : 4 ≤ k ∨ last = none) :
    concealBlock k last = Block.silence := by
  cases last with
  | none => rfl
  | some b => exact if_neg (by simp at h; omega)

/-- Settles O41, by the mode and by what is held at *next*. -/
theorem queuesPlayOut : Obligations.QueuesPlayOut := by
  intro depth q r silent ends
  have hends (c : QueueCounts) (hcleared : r.1 = RxQueue.cleared c) : ends c := by
    simp only [ends, hcleared, RxQueue.cleared, and_self]
  refine ⟨RxQueue.playStep_of_idle depth, fun hprime => ?_,
    fun e he hplay hseq hok => ?_, fun hplay hmissing => ?_⟩
  · exact (RxQueue.playStep_of_priming depth hprime).trans
      (congrArg (·, silent) (RxQueue.primingStep_eq depth))
  · intro rest
    have hr : r = (q.take depth e, Output.ofReal e.realBlock) :=
      RxQueue.playStep_of_held depth hplay (hok.atNext_of_mem he hseq)
    have hqueue : r.1 = q.take depth e := congrArg Prod.fst hr
    refine ⟨congrArg Prod.snd hr,
      fun hplain => hqueue.trans (RxQueue.take_of_plain depth hplain),
      fun hend hrest => hends _ (hqueue.trans (RxQueue.take_of_last_end depth hend hrest)),
      fun x after hend hrest =>
        ⟨hqueue.trans (RxQueue.take_of_end depth hend hrest), fun y hy => ?_⟩⟩
    have hsorted := hok.behindNext_sorted
    have hfirst : q.behindNext = x :: after := hrest
    rw [hfirst] at hsorted
    exact List.rel_of_pairwise_cons hsorted hy
  · intro k counts
    have hr : r = (q.concealStep, ⟨concealBlock k q.lastReal, 0, false⟩) :=
      RxQueue.playStep_of_missing depth hplay (RxQueue.atNext_none.2 hmissing)
    have hqueue : r.1 = q.concealStep := congrArg Prod.fst hr
    have hout : r.2 = ⟨concealBlock k q.lastReal, 0, false⟩ := congrArg Prod.snd hr
    refine ⟨by rw [hout], by rw [hout], fun b i hlast hk hi => ?_, fun hsilent => ?_,
      fun hgoes => hqueue.trans (RxQueue.concealStep_of_goes_on hgoes),
      fun hrun hempty => hends _ (hqueue.trans (RxQueue.concealStep_of_break hrun hempty))⟩
    · rw [hout, hlast]
      exact sample_concealBlock hk hi
    · rw [hout]
      exact concealBlock_silence hsilent

end Sys2Proof.Machine
end

section
/-! PROOFS. The Mix Engine (chapter 6): the sources of the two buses, the floor holder's wearer and
the duck targets, and the bounds of gains, products and accumulators. -/

namespace Sys2Proof.Machine

/-! ## The wearers with a source on a bus (R106, R108) -/

theorem mem_allWearers {w : Nat} : w ∈ allWearers ↔ 1 ≤ w ∧ w ≤ 15 := by
  simp only [allWearers, List.mem_map, List.mem_range]
  constructor
  · rintro ⟨i, hi, rfl⟩
    omega
  · rintro ⟨hlow, hhigh⟩
    exact ⟨w - 1, by omega, by omega⟩

theorem allWearers_nodup : allWearers.Nodup := by decide

/-- The wearers to which a bus gives a source, by the function that gives it. -/
def wearersWith (source : Nat → Option Source) : List Nat :=
  allWearers.filter (fun w => (source w).isSome)

theorem wearersWith_nodup (source : Nat → Option Source) : (wearersWith source).Nodup :=
  allWearers_nodup.filter _

theorem mem_wearersWith {source : Nat → Option Source} {w : Nat} :
    w ∈ wearersWith source ↔ 1 ≤ w ∧ w ≤ 15 ∧ source w ≠ none := by
  rw [wearersWith, List.mem_filter, mem_allWearers, Option.isSome_iff_ne_none, and_assoc]

theorem filterMap_eq_map_filter_isSome {f : Nat → Option Source} {g : Nat → Source}
    (h : ∀ w src, f w = some src → src = g w) (l : List Nat) :
    l.filterMap f = (l.filter (fun w => (f w).isSome)).map g := by
  induction l with
  | nil => rfl
  | cons w ws ih =>
    cases hw : f w with
    | none => simp [hw, ih]
    | some src => simp [hw, ih, h w src hw]

/-- A bus holds one source for each wearer to which it gives one. -/
theorem filterMap_allWearers {source : Nat → Option Source} {g : Nat → Source}
    (h : ∀ w src, source w = some src → src = g w) :
    allWearers.filterMap source = (wearersWith source).map g :=
  filterMap_eq_map_filter_isSome h allWearers

/-! ## The source of one wearer (R106, R108, R111) -/

/-- What the queue of a wearer's carrier plays at this boundary; silence without a carrier. -/
def State.carrierOutput (s : State) (w : Nat) : Block :=
  ((s.carrier w).bind (·.queue)).elim Block.silence (fun q => (q.playStep s.cfg.depth).2.block)

theorem State.output_of_carrier {s : State} {w : Nat} {p : Peer} (h : s.carrier w = some p) :
    (p.output s.cfg.depth).block = s.carrierOutput w := by
  rw [State.carrierOutput, h, Option.bind_some, Peer.output]
  cases p.queue <;> rfl

theorem State.earSource_ne_none (s : State) (w : Nat) :
    s.earSource w ≠ none ↔ w ≠ s.cfg.wearer ∧ s.carrier w ≠ none := by
  by_cases hw : w = s.cfg.wearer <;> simp [State.earSource, hw]

theorem State.earSource_some {s : State} {w : Nat} {src : Source} (h : s.earSource w = some src) :
    src = ⟨s.carrierOutput w, (s.cfg.mapEntry w).ear, s.duckApplies w⟩ := by
  unfold State.earSource at h
  split at h
  · cases h
  · obtain ⟨p, hp, rfl⟩ := Option.map_eq_some_iff.1 h
    rw [State.output_of_carrier hp]

/-- The source of one wearer on the uplink bus (R108). -/
def State.upSource (s : State) (m : MixInput) (w : Nat) : Option Source :=
  (s.upBlock m w).map (fun b => ⟨b, (s.cfg.mapEntry w).up, s.duckApplies w⟩)

theorem State.upSources_eq (s : State) (m : MixInput) :
    s.upSources m = allWearers.filterMap (s.upSource m) := rfl

theorem State.upBlock_own (s : State) (m : MixInput) :
    s.upBlock m s.cfg.wearer =
      m.sent.or ((s.carrier s.cfg.wearer).map (fun p => (p.output s.cfg.depth).block)) := by
  cases h : m.sent <;> simp [State.upBlock, h]

theorem State.upBlock_other {s : State} {w : Nat} (h : w ≠ s.cfg.wearer) (m : MixInput) :
    s.upBlock m w = (s.carrier w).map (fun p => (p.output s.cfg.depth).block) := if_neg h

theorem State.upSource_ne_none (s : State) (m : MixInput) (w : Nat) :
    s.upSource m w ≠ none ↔ s.carrier w ≠ none ∨ (w = s.cfg.wearer ∧ m.sent ≠ none) := by
  rw [State.upSource, Ne, Option.map_eq_none_iff]
  by_cases hw : w = s.cfg.wearer
  · subst hw
    rw [State.upBlock_own, Option.or_eq_none_iff, Option.map_eq_none_iff]
    tauto
  · rw [State.upBlock_other hw, Option.map_eq_none_iff]
    tauto

theorem State.upBlock_some {s : State} {m : MixInput} {w : Nat} {b : Block}
    (h : s.upBlock m w = some b) :
    b = if w = s.cfg.wearer then m.sent.getD (s.carrierOutput w) else s.carrierOutput w := by
  have heard (hb : (s.carrier w).map (fun p => (p.output s.cfg.depth).block) = some b) :
      b = s.carrierOutput w := by
    obtain ⟨p, hp, rfl⟩ := Option.map_eq_some_iff.1 hb
    exact State.output_of_carrier hp
  by_cases hw : w = s.cfg.wearer
  · subst hw
    rw [State.upBlock_own] at h
    rw [if_pos rfl]
    cases hsent : m.sent with
    | some b' =>
      rw [hsent] at h
      exact (Option.some.inj h).symm
    | none =>
      rw [hsent] at h
      exact heard h
  · rw [if_neg hw]
    exact heard (State.upBlock_other hw m ▸ h)

theorem State.upSource_some {s : State} {m : MixInput} {w : Nat} {src : Source}
    (h : s.upSource m w = some src) :
    src = ⟨if w = s.cfg.wearer then m.sent.getD (s.carrierOutput w) else s.carrierOutput w,
      (s.cfg.mapEntry w).up, s.duckApplies w⟩ := by
  obtain ⟨b, hb, rfl⟩ := Option.map_eq_some_iff.1 h
  rw [← State.upBlock_some hb]

/-! ## The sources of the buses (R106 to R109) -/

/-- The downlink's source on the ear bus, when there is one (R107). -/
def State.downlinkPart (s : State) (m : MixInput) : List Source :=
  if s.bu.state = .active then [⟨m.call, s.cfg.downlinkGain, false⟩]
  else if s.bu.followed = none then []
  else [⟨m.downlink.block, s.cfg.downlinkGain, false⟩]

theorem State.downlinkPart_eq (s : State) (m : MixInput) :
    ((s.downlinkSource m).map (fun o => (⟨o.block, s.cfg.downlinkGain, false⟩ : Source))).toList
      = s.downlinkPart m := by
  by_cases hactive : s.bu.state = .active
  · simp [State.downlinkSource, State.downlinkPart, hactive]
  · cases hfollowed : s.bu.followed <;>
      simp [State.downlinkSource, State.downlinkPart, hactive, hfollowed]

theorem State.earSources_eq (s : State) (m : MixInput) :
    s.earSources m = s.downlinkPart m ++
      (wearersWith s.earSource).map
        (fun w => ⟨s.carrierOutput w, (s.cfg.mapEntry w).ear, s.duckApplies w⟩) ++
      [⟨m.sidetone, s.cfg.sidetone, false⟩] := by
  rw [State.earSources, State.downlinkPart_eq,
    filterMap_allWearers (fun _ _ => State.earSource_some)]

theorem State.upSources_eq_map (s : State) (m : MixInput) :
    s.upSources m = (wearersWith (s.upSource m)).map (fun w =>
      ⟨if w = s.cfg.wearer then m.sent.getD (s.carrierOutput w) else s.carrierOutput w,
        (s.cfg.mapEntry w).up, s.duckApplies w⟩) := by
  rw [State.upSources_eq, filterMap_allWearers (fun _ _ => State.upSource_some)]

/-! ## How many sources a bus has -/

theorem State.wearer_mem_of_carrier {s : State} {w : Nat} (h : s.carrier w ≠ none) :
    w ∈ s.ru.peers.map (·.wearer) := by
  obtain ⟨p, hp⟩ := Option.ne_none_iff_exists'.1 h
  have htest := List.find?_some hp
  obtain ⟨hwearer, -⟩ := (carrierTest_iff w p).1 htest
  exact List.mem_map.2 ⟨p, List.mem_of_find?_eq_some hp, hwearer⟩

theorem State.length_downlinkPart (s : State) (m : MixInput) : (s.downlinkPart m).length ≤ 1 := by
  unfold State.downlinkPart
  split
  · exact le_rfl
  · split
    · exact Nat.zero_le 1
    · exact le_rfl

/-- Each wearer on the ear bus is that of an entry of its own, and there are at most 9 entries. -/
theorem State.length_earSources {s : State} (h : s.RosterOk) (m : MixInput) :
    (s.earSources m).length ≤ 11 := by
  obtain ⟨hpeers, -⟩ := h
  have hsub : wearersWith s.earSource ⊆ s.ru.peers.map (·.wearer) := fun w hw => by
    obtain ⟨-, -, hsource⟩ := mem_wearersWith.1 hw
    exact State.wearer_mem_of_carrier ((s.earSource_ne_none w).1 hsource).2
  have hlen := ((wearersWith_nodup _).subperm hsub).length_le
  have hdown := s.length_downlinkPart m
  rw [List.length_map] at hlen
  simp only [State.earSources_eq, List.length_append, List.length_map, List.length_singleton]
  omega

/-- On the uplink bus the own wearer may stand beside those of the entries. -/
theorem State.length_upSources {s : State} (h : s.RosterOk) (m : MixInput) :
    (s.upSources m).length ≤ 10 := by
  obtain ⟨hpeers, -⟩ := h
  have hsub : wearersWith (s.upSource m) ⊆ s.cfg.wearer :: s.ru.peers.map (·.wearer) :=
    fun w hw => by
      obtain ⟨-, -, hsource⟩ := mem_wearersWith.1 hw
      rcases (s.upSource_ne_none m w).1 hsource with hcarrier | ⟨rfl, -⟩
      · exact List.mem_cons_of_mem _ (State.wearer_mem_of_carrier hcarrier)
      · exact List.mem_cons_self
  have hlen := ((wearersWith_nodup _).subperm hsub).length_le
  rw [List.length_cons, List.length_map] at hlen
  rw [State.upSources_eq_map, List.length_map]
  omega

/-! ## The floor holder's wearer and the targets (R113, R114, R116) -/

theorem State.duckApplies_iff (s : State) (w : Nat) :
    s.duckApplies w = true ↔ (s.cfg.mapEntry w).exempt = false ∧ s.floorWearer ≠ some w := by
  simp [State.duckApplies]

theorem State.floorWearer_of_active {s : State} (h : s.bu.state = .active) :
    s.floorWearer = s.cq.holder.bind s.wearerOf := if_pos h

theorem State.floorWearer_of_not_active {s : State} (h : s.bu.state ≠ .active) :
    s.floorWearer = s.cq.view.map (·.wearer) := if_neg h

theorem State.wearerOf_own (s : State) : s.wearerOf s.own = some s.cfg.wearer := if_pos rfl

theorem State.wearerOf_peer {s : State} {n : Nat} {p : Peer} (hn : n ≠ s.own)
    (hp : s.peer n = some p) : s.wearerOf n = some p.wearer := by
  rw [State.wearerOf, if_neg hn, hp, Option.map_some]

theorem State.earTarget_of_no_floor {s : State} (h : s.floorWearer = none) (callDuck : Bool) :
    s.earTarget callDuck = if callDuck then s.cfg.callTarget else 1024 := by
  simp [State.earTarget, h]

theorem State.earTarget_of_floor {s : State} (h : s.floorWearer ≠ none) (callDuck : Bool) :
    s.earTarget callDuck =
      min (if callDuck then s.cfg.callTarget else 1024) s.cfg.floorTarget :=
  if_pos (Option.isSome_iff_ne_none.2 h)

/-- An inactive duck counts as one with the target 1024, so long as no setting lies above that
(R114, R184). -/
theorem State.earTarget_eq {s : State} (h : s.cfg.callTarget ≤ 1024) (callDuck : Bool) :
    s.earTarget callDuck = min (if callDuck then s.cfg.callTarget else 1024)
      (if s.floorWearer = none then 1024 else s.cfg.floorTarget) := by
  by_cases hfloor : s.floorWearer = none
  · rw [State.earTarget_of_no_floor hfloor, if_pos hfloor, min_eq_left]
    cases callDuck
    · exact le_rfl
    · exact h
  · rw [State.earTarget_of_floor hfloor, if_neg hfloor]

theorem State.upTarget_eq (s : State) :
    s.upTarget = if s.floorWearer = none then 1024 else s.cfg.floorTarget := by
  cases hfloor : s.floorWearer <;> simp [State.upTarget, hfloor]

/-! ## Bounds of gains, products and sums (R117 to R119) -/

theorem mapEntry_gains {c : Settings} (h : c.InRange) (w : Nat) :
    (c.mapEntry w).ear ≤ 4095 ∧ (c.mapEntry w).up ≤ 4095 := by
  obtain ⟨-, -, -, -, -, -, -, -, -, -, -, -, -, -, -, -, -, -, -, -, -, -, hmap⟩ := h
  rw [Settings.mapEntry, List.getD_eq_getElem?_getD]
  cases hentry : c.wearerMap[w - 1]? with
  | none => exact ⟨Nat.zero_le _, Nat.zero_le _⟩
  | some e => exact hmap e (List.mem_of_getElem? hentry)

theorem State.gain_of_mem_earSources {s : State} (h : s.cfg.InRange) {m : MixInput} {src : Source}
    (hsrc : src ∈ s.earSources m) : src.gain ≤ 4095 := by
  have hmap := fun w => (mapEntry_gains h w).1
  obtain ⟨-, -, -, -, -, -, -, -, -, -, -, -, -, -, -, -, -, -, -, hside, hdown, -, -⟩ := h
  rw [State.earSources_eq, List.mem_append, List.mem_append, List.mem_singleton] at hsrc
  obtain (hsrc | hsrc) | rfl := hsrc
  · have hgain : src.gain = s.cfg.downlinkGain := by
      unfold State.downlinkPart at hsrc
      split at hsrc
      · rw [List.mem_singleton.1 hsrc]
      · split at hsrc
        · cases hsrc
        · rw [List.mem_singleton.1 hsrc]
    exact hgain ▸ hdown
  · obtain ⟨w, -, rfl⟩ := List.mem_map.1 hsrc
    exact hmap w
  · exact hside

theorem State.gain_of_mem_upSources {s : State} (h : s.cfg.InRange) {m : MixInput} {src : Source}
    (hsrc : src ∈ s.upSources m) : src.gain ≤ 4095 := by
  rw [State.upSources_eq_map] at hsrc
  obtain ⟨w, -, rfl⟩ := List.mem_map.1 hsrc
  exact (mapEntry_gains h w).2

/-- A duck factor of at most 1024 raises no gain (R117). -/
theorem Source.effective_le_gain {d : Nat} (hd : d ≤ 1024) (src : Source) :
    src.effective d ≤ src.gain := by
  unfold Source.effective
  split
  · have := Nat.mul_le_mul_left src.gain hd
    omega
  · exact le_rfl

/-- The extremes are those of the samples -32768 and 32767 at the gain 4095 (R118). -/
theorem mixProduct_bounds (x : Sample) {g : Nat} (hg : g ≤ 4095) :
    -131040 ≤ mixProduct x g ∧ mixProduct x g ≤ 131036 := by
  have hlow : -32768 ≤ x.toInt := BitVec.le_toInt x
  have hhigh : x.toInt ≤ 32767 := Int.le_of_lt_add_one (BitVec.toInt_lt (x := x))
  have hdown : -32768 * 4095 ≤ x.toInt * g := by nlinarith
  have hup : x.toInt * g ≤ 32767 * 4095 := by nlinarith
  unfold mixProduct
  omega

theorem mixAcc_cons (d : Nat) (src : Source) (srcs : List Source) (i : Nat) :
    mixAcc d (src :: srcs) i =
      mixProduct (src.block.sample i) (src.effective d) + mixAcc d srcs i := by
  simp [mixAcc]

/-- Each source adds at most the largest product to an accumulator (R119). -/
theorem natAbs_mixAcc_le {d : Nat} {srcs : List Source}
    (h : ∀ src ∈ srcs, src.effective d ≤ 4095) (i : Nat) :
    (mixAcc d srcs i).natAbs ≤ srcs.length * 131040 := by
  induction srcs with
  | nil => exact le_rfl
  | cons src srcs ih =>
    obtain ⟨hsrc, hsrcs⟩ := List.forall_mem_cons.1 h
    have hproduct := mixProduct_bounds (src.block.sample i) hsrc
    have hrest := ih hsrcs
    rw [mixAcc_cons, List.length_cons]
    omega

section
variable {s : State} {d : Nat}

theorem State.effective_of_mem_earSources (h : s.cfg.InRange) (hd : d ≤ 1024) {m : MixInput} :
    ∀ src ∈ s.earSources m, src.effective d ≤ 4095 := fun src hsrc =>
  (src.effective_le_gain hd).trans (State.gain_of_mem_earSources h hsrc)

theorem State.effective_of_mem_upSources (h : s.cfg.InRange) (hd : d ≤ 1024) {m : MixInput} :
    ∀ src ∈ s.upSources m, src.effective d ≤ 4095 := fun src hsrc =>
  (src.effective_le_gain hd).trans (State.gain_of_mem_upSources h hsrc)

theorem State.natAbs_mixAcc_earSources (h : s.cfg.InRange) (hroster : s.RosterOk) (hd : d ≤ 1024)
    (m : MixInput) (i : Nat) : (mixAcc d (s.earSources m) i).natAbs ≤ 1441440 :=
  (natAbs_mixAcc_le (State.effective_of_mem_earSources h hd) i).trans
    (Nat.mul_le_mul_right 131040 (State.length_earSources hroster m))

theorem State.natAbs_mixAcc_upSources (h : s.cfg.InRange) (hroster : s.RosterOk) (hd : d ≤ 1024)
    (m : MixInput) (i : Nat) : (mixAcc d (s.upSources m) i).natAbs ≤ 1310400 :=
  (natAbs_mixAcc_le (State.effective_of_mem_upSources h hd) i).trans
    (Nat.mul_le_mul_right 131040 (State.length_upSources hroster m))

end

/-! ## The targets of settings out of range -/

/-- The RESET state but for a call-duck target above 1024, which R184 keeps from being a setting. -/
def callTargetAboveUnity : State :=
  { State.reset with sl :=
    { State.reset.sl with settings := { State.reset.cfg with callTarget := 1025 } } }

theorem earTarget_callTargetAboveUnity : callTargetAboveUnity.earTarget true = 1025 :=
  State.earTarget_of_no_floor rfl true

/-- Refutes O44: its clause on the ear's target is stated of every state, also of one whose settings
are out of range. There the call duck alone gives the call target 1025, where the clause has the
least of that and 1024. With the settings in range the clause holds (`State.earTarget_eq`), and the
other clauses are the lemmas above. -/
theorem not_sourcesAndBoundsOfTheBuses : ¬Obligations.SourcesAndBoundsOfTheBuses := by
  rintro ⟨hbuses, -⟩
  obtain ⟨-, -, -, -, -, htarget, -⟩ :=
    hbuses callTargetAboveUnity ⟨Block.silence, none, Block.silence, Output.silence⟩
  have hmin : callTargetAboveUnity.earTarget true = 1024 := htarget true
  rw [earTarget_callTargetAboveUnity] at hmin
  exact absurd hmin (by decide)

end Sys2Proof.Machine
end

section
/-! PROOFS. The Bridge Unit (chapter 7): the followed bridge, and one evaluation of the bridge
state. -/

namespace Sys2Proof.Machine

/-! ## The followed bridge (R142, R143) -/

/-- A peer that the followed bridge is chosen among (R142). -/
def Peer.showsActive (p : Peer) : Bool := p.state = .admitted && p.header.flags.active

theorem Peer.showsActive_iff (p : Peer) :
    p.showsActive = true ↔ p.state = .admitted ∧ p.header.flags.active = true := by
  simp [Peer.showsActive]

theorem State.bridgeInView_of_active {s : State} (h : s.bu.state = .active) :
    s.bridgeInView = some s.own := if_pos h

theorem State.bridgeInView_of_not_active {s : State} (h : s.bu.state ≠ .active) :
    s.bridgeInView = (s.ru.peers.find? Peer.showsActive).map (·.station) := if_neg h

/-- The table stands in ascending order, so the station followed is the lowest of those that show
ACTIVE. -/
theorem State.bridgeInView_eq_some_iff {s : State} (hroster : s.RosterOk)
    (h : s.bu.state ≠ .active) (n : Nat) :
    s.bridgeInView = some n ↔
      (∃ p, (p ∈ s.ru.peers ∧ p.showsActive = true) ∧ p.station = n) ∧
        ∀ q, q ∈ s.ru.peers ∧ q.showsActive = true → n ≤ q.station := by
  obtain ⟨-, hsorted, -⟩ := hroster
  simp only [State.bridgeInView_of_not_active h, Option.map_eq_some_iff,
    find?_eq_some_iff_lowest hsorted, and_imp]
  constructor
  · rintro ⟨p, ⟨hp, hlowest⟩, rfl⟩
    exact ⟨⟨p, hp, rfl⟩, hlowest⟩
  · rintro ⟨⟨p, hp, rfl⟩, hlowest⟩
    exact ⟨p, ⟨hp, hlowest⟩, rfl⟩

theorem State.bridgeInView_eq_none_iff {s : State} (h : s.bu.state ≠ .active) :
    s.bridgeInView = none ↔ ∀ p, ¬(p ∈ s.ru.peers ∧ p.showsActive = true) := by
  simp only [State.bridgeInView_of_not_active h, Option.map_eq_none_iff, List.find?_eq_none,
    not_and]

theorem State.evaluateFollowed_of_same {s : State} (h : s.bridgeInView = s.bu.followed) :
    s.evaluateFollowed = s := if_pos h

/-- A change of the followed bridge (R143, R99, R168). -/
theorem State.evaluateFollowed_of_changed {s : State} (h : s.bridgeInView ≠ s.bu.followed) :
    s.evaluateFollowed =
      { s with
        bu := { s.bu with followed := s.bridgeInView }
        cl := { s.cl with flags := s.cl.flags ||| stickyMask .bridgeChange }
        rq := s.rq.flush
        cq := { s.cq with view := none } } := if_neg h

/-- Settles O47: who is followed by the ascending order of the table, and the effects by whether
that is the bridge already held. -/
theorem followedBridgeIsTheLowestActive : Obligations.FollowedBridgeIsTheLowestActive := by
  intro s hroster
  simp only [← Peer.showsActive_iff]
  exact ⟨State.bridgeInView_of_active,
    fun h => ⟨State.bridgeInView_eq_some_iff hroster h, State.bridgeInView_eq_none_iff h⟩,
    State.evaluateFollowed_of_same, State.evaluateFollowed_of_changed⟩

/-! ## The lower claimers (R130) -/

theorem State.isLowerClaimer_iff (s : State) (p : Peer) :
    s.isLowerClaimer p = true ↔ p.state = .admitted ∧ p.station < s.own ∧
      (p.header.flags.claim = true ∨ p.header.flags.active = true) := by
  simp [State.isLowerClaimer, and_assoc]

theorem State.lowerClaimer_iff (s : State) :
    s.lowerClaimer = true ↔ ∃ p ∈ s.ru.peers, p.state = .admitted ∧ p.station < s.own ∧
      (p.header.flags.claim = true ∨ p.header.flags.active = true) := by
  simp only [State.lowerClaimer, List.any_eq_true, State.isLowerClaimer_iff]

/-! ## The leaving effects (R137, R164) -/

/-- A flag set on a condition, as one word joined to the flags. -/
theorem State.setFlagIf_eq (s : State) (c : Bool) (f : Sticky) :
    s.setFlagIf c f =
      { s with cl := { s.cl with flags := s.cl.flags ||| if c then stickyMask f else 0 } } := by
  cases c
  · simp [State.setFlagIf]
  · rfl

theorem PerLatch.set_of_get {α : Type} {r : PerLatch α} {k : LatchKind} {a : α}
    (h : r.get k = a) : r.set k a = r := by
  subst h; cases k <;> rfl

/-- A latch is clear after its drop; a set one leaves DROPPED and REQ_OUTCOME behind. -/
theorem State.dropLatch_eq (s : State) (k : LatchKind) :
    s.dropLatch k =
      { s with
        cq := { s.cq with latches := s.cq.latches.set k false }
        cl := { s.cl with
          outcomes := if s.cq.latches.get k then s.cl.outcomes.set (latchReqKind k) .dropped
            else s.cl.outcomes
          flags := s.cl.flags ||| if s.cq.latches.get k then stickyMask .reqOutcome else 0 } } := by
  cases hset : s.cq.latches.get k with
  | true => simp [State.dropLatch, hset, State.record, State.setFlag]
  | false => simp [State.dropLatch, hset, PerLatch.set_of_get hset]

/-- The term ends with both latches clear, each that was set with DROPPED. -/
theorem State.endTerm_eq (s : State) :
    s.endTerm =
      { s with
        ru := { s.ru with peers := s.ru.peers.map (fun p => { p with lastSeen := none }) }
        cq := { s.cq with holder := none, grant := none, floorQueue := [],
                          latches := ⟨false, false⟩ }
        cl := { s.cl with
          outcomes := { s.cl.outcomes with
            answer := if s.cq.latches.answer then .dropped else s.cl.outcomes.answer
            hangup := if s.cq.latches.hangup then .dropped else s.cl.outcomes.hangup }
          flags := s.cl.flags |||
            (if s.cq.holder.isSome then stickyMask .floorChange else 0) |||
            (if s.cq.latches.answer || s.cq.latches.hangup then stickyMask .reqOutcome
              else 0) } } := by
  simp only [State.endTerm, State.setFlagIf_eq, State.dropLatch_eq]
  cases hanswer : s.cq.latches.answer <;> cases hhangup : s.cq.latches.hangup <;>
    simp [hanswer, hhangup, PerLatch.get, PerLatch.set, PerKind.set, latchReqKind, BitVec.or_assoc]

/-! ## One evaluation of the bridge state (R133, R136 to R138) -/

theorem State.enterYielded_eq (s : State) :
    s.enterYielded =
      { s with bu := { s.bu with state := .yielded, settle := none },
               cl := { s.cl with flags := s.cl.flags ||| stickyMask .bridgeYield } } := rfl

/-- A station that leaves YIELDED claims afresh: without a lower claimer it does not yield again. -/
theorem State.enterClaiming_of_none_lower {s : State} (h : s.lowerClaimer = false) :
    s.enterClaiming =
      { s with bu := { s.bu with state := .claiming, settle := some (s.now + 6000) } } := by
  have stays (bu : BridgeUnit) : ({ s with bu := bu } : State).lowerClaimer = s.lowerClaimer := rfl
  simp [State.enterClaiming, stays, h, settleTime, millis]

/-- The cases in which the bridge state stays as it is. -/
theorem State.evaluateState_of_kept {s : State}
    (h : s.bu.state = .off ∨
      ((s.bu.state = .claiming ∨ s.bu.state = .active) ∧ s.lowerClaimer = false) ∨
      (s.bu.state = .yielded ∧ s.lowerClaimer = true)) : s.evaluateState = s := by
  obtain hoff | ⟨hclaiming | hactive, hnone⟩ | ⟨hyielded, hlower⟩ := h
  · simp [State.evaluateState, hoff]
  · simp [State.evaluateState, hclaiming, hnone]
  · simp [State.evaluateState, hactive, hnone]
  · simp [State.evaluateState, hyielded, hlower]

theorem State.evaluateState_of_outclaimed {s : State} (hclaiming : s.bu.state = .claiming)
    (hlower : s.lowerClaimer = true) : s.evaluateState = s.enterYielded := by
  simp [State.evaluateState, hclaiming, hlower]

theorem State.evaluateState_of_freed {s : State} (hyielded : s.bu.state = .yielded)
    (hnone : s.lowerClaimer = false) : s.evaluateState = s.enterClaiming := by
  simp [State.evaluateState, hyielded, hnone]

theorem State.evaluateState_of_displaced {s : State} (hactive : s.bu.state = .active)
    (hlower : s.lowerClaimer = true) : s.evaluateState = s.leaveActive.enterYielded := by
  simp [State.evaluateState, hactive, hlower]

/-- Settles O49, by the bridge state and by whether there is a lower claimer. From ACTIVE the flags
of the leaving effects and BRIDGE_YIELD are one union, whatever their order. -/
theorem bridgeStateIsEvaluated : Obligations.BridgeStateIsEvaluated := by
  intro s
  refine ⟨s.lowerClaimer_iff, ?_⟩
  simp only [← State.lowerClaimer_iff, Bool.not_eq_true]
  refine ⟨State.evaluateState_of_kept, fun hclaiming hlower => ?_, fun hyielded hnone => ?_,
    fun hactive hlower => ?_⟩
  · rw [State.evaluateState_of_outclaimed hclaiming hlower, State.enterYielded_eq]; rfl
  · rw [State.evaluateState_of_freed hyielded hnone, State.enterClaiming_of_none_lower hnone]
  · have union (a b c d : BitVec 12) : a ||| b ||| c ||| d = a ||| d ||| b ||| c := by ac_rfl
    rw [State.evaluateState_of_displaced hactive hlower, State.leaveActive, State.endTerm_eq,
      State.enterYielded_eq, union]
    rfl

end Sys2Proof.Machine
end

section
/-! PROOFS. The Call Request Unit (chapter 8): DONE and the call latches, the reports they hand to
the Control Line, and the floor. -/

namespace Sys2Proof.Machine

/-! ## DONE (R157) -/

/-- The state with the latch of a kind at a value. -/
def State.withLatch (s : State) (k : LatchKind) (b : Bool) : State :=
  { s with cq := { s.cq with latches := s.cq.latches.set k b } }

theorem exec_done (k : LatchKind) (s : State) :
    exec (.done k) s = s.onCommand (·.withLatch k false) := rfl

theorem State.withLatch_self {s : State} {k : LatchKind} {b : Bool}
    (h : s.cq.latches.get k = b) : s.withLatch k b = s := by
  rw [State.withLatch, PerLatch.set_of_get h]

/-- Settles O32: DONE is one update of one latch, which is no update of a clear one. -/
theorem doneClearsItsLatchAlone : Obligations.DoneClearsItsLatchAlone := by
  have discarded (k : LatchKind) {s : State} (hr : ¬s.running) : exec (.done k) s = .next s := by
    rw [exec_done, State.onCommand_of_not_running hr]
  intro s
  refine ⟨fun hr => ?_, fun hr => ?_, fun k hclear => ?_, fun k => discarded k⟩
  · rw [exec_done, State.onCommand_of_running hr]; rfl
  · rw [exec_done, State.onCommand_of_running hr]; rfl
  · by_cases hr : s.running
    · rw [exec_done, State.onCommand_of_running hr, State.withLatch_self hclear]
    · exact discarded k hr

/-! ## REQUEST reports (R172, R176) -/

/-- The five bytes of a REQUEST report (R176). -/
theorem requestReport_eq (k : LatchKind) (m : Nat) :
    requestReport k m =
      ⟨.request, [3, 3, BitVec.ofNat 8 (latchKindNumber k), BitVec.ofNat 8 (m / 256),
        BitVec.ofNat 8 m]⟩ := by
  cases k <;> rfl

theorem State.formRequest_of_full {s : State} (h : 4 ≤ s.requestsWaiting) (k : LatchKind) :
    s.formRequest k =
      { s with cl := { s.cl with reportOverflows := countUp s.cl.reportOverflows 1 } } := if_pos h

theorem State.formRequest_of_room {s : State} (h : s.requestsWaiting < 4) (k : LatchKind) :
    s.formRequest k = s.pushReport (requestReport k (s.cq.merges.get k)) := if_neg h.not_ge

/-- A report goes behind all others; it starts at once only when there is no other. -/
theorem State.pushReport_joins_last {s : State} (h : s.cl.sending = none → s.cl.waiting = [])
    (r : Report) : ∃ (first : Option Report) (rest : List Report),
      s.pushReport r = { s with cl := { s.cl with sending := first, waiting := rest } } ∧
      first.toList ++ rest = s.cl.sending.toList ++ s.cl.waiting ++ [r] ∧
      (s.cl.sending ≠ none → first = s.cl.sending) := by
  cases hsending : s.cl.sending with
  | none =>
    exact ⟨some r, s.cl.waiting, by simp [State.pushReport, hsending], by simp [h hsending],
      fun hne => absurd rfl hne⟩
  | some x =>
    exact ⟨some x, s.cl.waiting ++ [r], by simp [State.pushReport, hsending], by simp,
      fun _ => rfl⟩

/-! ## A request of a latch kind (R156) -/

theorem State.setLatch_of_set {s : State} {k : LatchKind} (h : s.cq.latches.get k = true) :
    s.setLatch k =
      { s with cq := { s.cq with merges := s.cq.merges.set k (countUp (s.cq.merges.get k) 1) } } :=
  if_pos h

theorem State.setLatch_of_clear {s : State} {k : LatchKind} (h : s.cq.latches.get k = false) :
    s.setLatch k = (s.withLatch k true).formRequest k := by
  simp [State.setLatch, State.withLatch, h]

/-! ## The floor (R159 to R161) -/

theorem State.grantEnds_eq (s : State) : s.grantEnds = s.now + 100000 * s.cfg.grantTime :=
  congrArg (s.now + ·) (Nat.mul_comm _ _)

section
variable {s : State} {n : Nat}

theorem State.requestFloor_of_holder (h : s.cq.holder = some n) :
    s.requestFloor n = { s with cq := { s.cq with grant := some s.grantEnds } } := if_pos h

theorem State.requestFloor_of_queued (h : s.cq.holder ≠ some n) (hqueued : n ∈ s.cq.floorQueue) :
    s.requestFloor n = s := by
  simp [State.requestFloor, h, hqueued]

theorem State.requestFloor_of_behind {m : Nat} (h : s.cq.holder = some m) (hne : m ≠ n)
    (hnew : n ∉ s.cq.floorQueue) :
    s.requestFloor n = { s with cq := { s.cq with floorQueue := s.cq.floorQueue ++ [n] } } := by
  simp [State.requestFloor, h, hne, hnew]

theorem State.requestFloor_of_vacant (h : s.cq.holder = none) (hnew : n ∉ s.cq.floorQueue) :
    s.requestFloor n = State.setFlag
      { s with cq := { s.cq with holder := some n, grant := some s.grantEnds } } .floorChange := by
  simp [State.requestFloor, h, hnew]

theorem State.endGrant_of_none_waiting (h : s.cq.floorQueue = []) :
    s.endGrant = State.setFlag { s with cq := { s.cq with holder := none, grant := none } }
      .floorChange := by
  simp [State.endGrant, h]

theorem State.endGrant_of_oldest {m : Nat} {rest : List Nat} (h : s.cq.floorQueue = m :: rest) :
    s.endGrant = State.setFlag
      { s with cq := { s.cq with
        holder := some m, grant := some s.grantEnds, floorQueue := rest } } .floorChange := by
  simp [State.endGrant, h]

theorem State.leaveFloor_of_holder (h : s.cq.holder = some n) : s.leaveFloor n = s.endGrant :=
  if_pos h

theorem State.leaveFloor_of_not_holder (h : s.cq.holder ≠ some n) :
    s.leaveFloor n =
      { s with cq := { s.cq with floorQueue := s.cq.floorQueue.filter (· ≠ n) } } := if_neg h

end

/-- Settles O52, by where the station stands on the floor, and by the latch and the number of
REQUEST reports waiting. -/
theorem floorAndLatchesAreActedOn : Obligations.FloorAndLatchesAreActedOn := by
  refine ⟨fun s n => ?_, fun s k => ?_⟩
  · simp only [← State.grantEnds_eq]
    exact ⟨State.requestFloor_of_holder, State.requestFloor_of_queued,
      fun _ => State.requestFloor_of_behind, State.requestFloor_of_vacant,
      fun hholder hnone => (State.leaveFloor_of_holder hholder).trans
        (State.endGrant_of_none_waiting hnone),
      fun _ _ hholder holdest => (State.leaveFloor_of_holder hholder).trans
        (State.endGrant_of_oldest holdest),
      State.leaveFloor_of_not_holder⟩
  · refine ⟨State.setLatch_of_set, fun hclear hfull => ?_, fun hclear hroom hidle => ?_⟩
    · exact (State.setLatch_of_clear hclear).trans
        (State.formRequest_of_full (s := s.withLatch k true) hfull k)
    · rw [State.setLatch_of_clear hclear,
        State.formRequest_of_room (s := s.withLatch k true) hroom, requestReport_eq]
      exact State.pushReport_joins_last (s := s.withLatch k true) hidle _

end Sys2Proof.Machine
end

section
/-! PROOFS. The Control Line (chapter 9): the ATTN output. -/

namespace Sys2Proof.Machine

/-! ## ATTN (R178) -/

/-- A bit outlives the mask exactly where its flag is set and its mask bit is clear. -/
theorem and_not_ne_zero_iff {w : Nat} (flags mask : BitVec w) :
    flags &&& ~~~mask ≠ 0 ↔
      ∃ i, i < w ∧ flags.getLsbD i = true ∧ mask.getLsbD i = false := by
  have hbit : flags &&& ~~~mask ≠ 0 ↔ ∃ i, (flags &&& ~~~mask).getLsbD i = true :=
    BitVec.zero_iff_eq_false.not.trans (by simp)
  rw [hbit]
  simp [and_left_comm]

section
variable {s : State}

theorem State.attn_of_loading (h : s.sl.state = .loading) : s.attn = false := by
  rw [State.attn, h]

theorem State.attn_of_halted (h : s.sl.state = .halted) : s.attn = true := by
  rw [State.attn, h]

theorem State.attn_of_running (h : s.sl.state = .running) :
    s.attn = true ↔ s.cl.flags &&& ~~~s.cl.mask ≠ 0 := by
  simp only [State.attn, h, decide_eq_true_iff]

end

/-- Settles O53, by the loader state; in RUNNING the unmasked flags are not zero exactly when one of
them is set. -/
theorem attnFollowsTheFlags : Obligations.AttnFollowsTheFlags := fun _ =>
  ⟨State.attn_of_loading, State.attn_of_halted, fun hrunning =>
    (State.attn_of_running hrunning).trans (and_not_ne_zero_iff _ _)⟩

end Sys2Proof.Machine
end

section
/-! PROOFS. Steps, RESET and the Start-up Loader (section 9.4): the front command, the RESET values,
the checks of an image and the settings that it gives. -/

namespace Sys2Proof.Machine

/-! ## One step and RESET (R180) -/

theorem step_cons (c : Instr) (rest : List Instr) (s : State) :
    step { s with pending := c :: rest } = exec c { s with pending := rest } := rfl

theorem step_of_empty {s : State} (h : s.pending = []) : step s = .next s.tick := by
  simp only [step, h]

/-- The clock of an idle part stands still while RESET is held. -/
theorem State.tick_eq (s : State) :
    s.tick = { s with now := if s.ports.resetHeld then s.now else s.now + 1 } := by
  cases h : s.ports.resetHeld <;> simp [State.tick, h]

/-- Settles O1: a step is `exec` of the front command, or a tick. -/
theorem stepTakesTheFrontCommand : Obligations.StepTakesTheFrontCommand :=
  ⟨step_cons, fun s h => (step_of_empty h).trans (congrArg _ s.tick_eq)⟩

theorem exec_reset (s : State) : exec .reset s = .next s.heldReset := rfl

theorem exec_resetRelease (s : State) : exec .resetRelease s = .next
    (if s.ports.resetHeld then
      { s with ports := { s.ports with resetHeld := false }, sl := { s.sl with reading := true } }
    else s) := rfl

/-- The role under RESET follows the AUDIO_READY level (R56). -/
theorem State.resetRole_eq (s : State) :
    (if s.isolated = true then Role.standby else .lead) =
      if s.ports.audioReady = true then .lead else .standby := by
  cases h : s.ports.audioReady <;> simp [State.isolated, h]

/-- Settles O2: the held state is the RESET value of each block, field by field. -/
theorem resetHoldsEveryBlockAtRest : Obligations.ResetHoldsEveryBlockAtRest := by
  refine ⟨fun s => ?_, exec_resetRelease⟩
  rw [exec_reset, ← s.resetRole_eq]
  rfl

/-- Settles O56: at RESET nothing runs, every table and queue is empty and the Bridge Unit is OFF. -/
theorem resetMeetsTheInvariant : Obligations.ResetMeetsTheInvariant where
  settings := by simp [State.SettingsOk, State.reset, Loader.reset]
  atRest := by simp [State.AtRest, State.reset, Loader.reset, WearerLogic.reset]
  roster := by simp [State.RosterOk, State.reset, RosterUnit.reset]
  queues := by decide
  capture := by simp [State.CaptureOk, State.reset, CaptureUnit.reset]
  role := by simp [State.RoleOk, State.reset, WearerLogic.reset, State.isolated]
  sendQueue := by simp [State.SendQueueOk, State.reset, SendAssembler.reset]
  due := by
    simp [State.DueOk, State.reset, SendAssembler.reset, RosterUnit.reset, Loader.reset]
  link := by simp [State.LinkOk, State.reset, LinkPort.reset]
  work := by decide
  bridge := by
    simp [State.BridgeOk, State.reset, BridgeUnit.reset, State.bridgeInView, RosterUnit.reset,
      CallRequest.reset]
  term := by decide
  floor := by simp [State.FloorOk, State.reset, CallRequest.reset, State.onFloor]
  reports := by decide
  mix := by decide
  output := by decide

/-! ## The bytes of an image (R182) -/

theorem byteAt_lt (img : Image) (i : Nat) : img.byteAt i < 256 := (img.bytes.getD i 0#8).isLt

/-- The sum that byte 70 and 71 are checked against (R183). -/
theorem imageSum_eq (img : Image) :
    imageSum img = ((List.range 70).map img.byteAt).sum % 65536 := by
  have hbytes : (img.bytes.take 70).map (·.toNat) = (List.range 70).map img.byteAt := by
    refine List.ext_getElem (by simp [img.len]) fun i h _ => ?_
    have hi : i < img.bytes.length := by simp at h; omega
    simp [Image.byteAt, hi]
  rw [imageSum, hbytes]

theorem fieldBits_low_nibble (v : Nat) : fieldBits v 0 4 = v % 16 := by simp [fieldBits]

theorem fieldBits_high_nibble {v : Nat} (h : v < 256) : fieldBits v 4 4 = v / 16 := by
  simp only [fieldBits]
  omega

/-! ## The checks of an image (R183) -/

/-- The fault code of the first check that fails, the checks being those of R183. -/
theorem imageFault_eq (img : Image) : imageFault img =
    if img.byteAt 0 % 16 ≠ 1 then some .format
    else if img.byteAt 70 * 256 + img.byteAt 71 ≠ ((List.range 70).map img.byteAt).sum % 65536 then
      some .sum
    else if ¬(1 ≤ img.byteAt 1 ∧ img.byteAt 1 ≤ 254) then some .station
    else if img.byteAt 0 / 16 = 0 then some .wearer
    else if img.byteAt 2 * 256 + img.byteAt 3 = 0 ∨ img.byteAt 2 * 256 + img.byteAt 3 = 65535 then
      some .group
    else none := by
  rw [imageFault, imageSum_eq, fieldBits_low_nibble, fieldBits_high_nibble (byteAt_lt img 0)]
  rfl

theorem imageFault_of_passes {img : Image} (h : imagePasses img) : imageFault img = none := by
  obtain ⟨hformat, hsum, hstation, hwearer, hzero, hones⟩ := h
  rw [imageFault_eq, if_neg (not_not.2 hformat), if_neg (not_not.2 hsum),
    if_neg (not_not.2 hstation), if_neg hwearer, if_neg (not_or.2 ⟨hzero, hones⟩)]

theorem imagePasses_of_no_fault {img : Image} (h : imageFault img = none) : imagePasses img := by
  rw [imageFault_eq] at h
  split_ifs at h with hformat hsum hstation hwearer hgroup
  exact ⟨not_not.1 hformat, not_not.1 hsum, hstation, hwearer, not_or.1 hgroup⟩

/-! ## LOADING_COMPLETE (R181) -/

section
variable {s : State} {img : Image}

theorem exec_loadingComplete_of_fault (hloading : s.sl.state = .loading)
    (hreading : s.sl.reading = true) {f : FaultCode} (h : imageFault img = some f) :
    exec (.loadingComplete img) s = .next (s.halt f) := by
  simp [exec, execLoadingComplete, hloading, hreading, h]

theorem exec_loadingComplete_of_passes (hloading : s.sl.state = .loading)
    (hreading : s.sl.reading = true) (h : imageFault img = none) :
    exec (.loadingComplete img) s = .next (s.startRunning img).linkReact := by
  simp [exec, execLoadingComplete, hloading, hreading, h]

theorem exec_loadingComplete_of_no_read (h : ¬(s.sl.state = .loading ∧ s.sl.reading = true)) :
    exec (.loadingComplete img) s = .next s := by
  simp only [exec, execLoadingComplete, if_neg h]

end

/-- The start of RUNNING as one update of the state (R181, R184). -/
theorem State.startRunning_eq (s : State) (img : Image) :
    s.startRunning img =
      { s with
        sl := { state := .running, reading := false, settings := imageSettings img,
                fault := if imageClamped img then .clamped else .noFault }
        cl := { s.cl with
          mask := imageMask img
          flags := if imageClamped img then s.cl.flags ||| stickyMask .configFault
            else s.cl.flags }
        lp := { s.lp with idleMark := if s.ports.mediumBusy then s.lp.idleMark else some s.now }
        sa := { s.sa with
          scheduledDue := true, promotionTimer := some (s.now + presenceInterval) } } := by
  cases h : imageClamped img <;>
    simp [State.startRunning, State.setFlagIf, State.setFlag, h]

/-- Settles O3, by the check that fails first. -/
theorem loadingChecksTheImage : Obligations.LoadingChecksTheImage := by
  refine ⟨fun img s hloading hreading => ?_, fun img s hloading hreading hpasses => ?_,
    fun img s h => exec_loadingComplete_of_no_read h⟩
  · intro halts formatOk sumOk stationOk wearerOk groupOk
    have hhalts {f : FaultCode} (h : imageFault img = some f) : halts f :=
      exec_loadingComplete_of_fault hloading hreading h
    refine ⟨fun hformat => hhalts ?_, fun hformat hsum => hhalts ?_,
      fun hformat hsum hstation => hhalts ?_, fun hformat hsum hstation hwearer => hhalts ?_,
      fun hformat hsum hstation hwearer hgroup => hhalts ?_⟩
    · rw [imageFault_eq, if_pos hformat]
    · rw [imageFault_eq, if_neg (not_not.2 hformat), if_pos hsum]
    · rw [imageFault_eq, if_neg (not_not.2 hformat), if_neg (not_not.2 hsum), if_pos hstation]
    · rw [imageFault_eq, if_neg (not_not.2 hformat), if_neg (not_not.2 hsum),
        if_neg (not_not.2 hstation), if_pos (not_not.1 hwearer)]
    · rw [imageFault_eq, if_neg (not_not.2 hformat), if_neg (not_not.2 hsum),
        if_neg (not_not.2 hstation), if_neg hwearer,
        if_pos (by omega)]
  · rw [exec_loadingComplete_of_passes hloading hreading (imageFault_of_passes hpasses),
      State.startRunning_eq]
    rfl

/-! ## The settings of an image (R184) -/

/-- The entry of a wearer 1 to 15 in the map of an image. -/
theorem imageSettings_mapEntry (img : Image) {w : Nat} (hlow : 1 ≤ w) (hhigh : w ≤ 15) :
    (imageSettings img).mapEntry w = imageMapEntry img w := by
  have hw : w - 1 < 15 := by omega
  simp [Settings.mapEntry, imageSettings, hw, Nat.sub_add_cancel hlow]

/-- The exempt flags of wearers 1 to 8 are bits of byte 16, those of 9 to 15 of byte 15. -/
theorem testBit_imageTriple (img : Image) {i : Nat} (h : i < 15) :
    (imageTriple img 14).testBit i =
      if i < 8 then (img.bytes.getD 16 0).getLsbD i else (img.bytes.getD 15 0).getLsbD (i - 8) := by
  have hsplit : imageTriple img 14 =
      2 ^ 8 * (2 ^ 8 * img.byteAt 14 + img.byteAt 15) + img.byteAt 16 := by
    simp only [imageTriple, Nat.reduceAdd]
    omega
  have h16 : img.byteAt 16 < 2 ^ 8 := byteAt_lt img 16
  have h15 : img.byteAt 15 < 2 ^ 8 := byteAt_lt img 15
  rw [hsplit, Nat.testBit_two_pow_mul_add _ h16, Nat.testBit_two_pow_mul_add _ h15]
  have hlow : i - 8 < 8 := by omega
  simp only [hlow, if_true]
  rfl

theorem imageMapEntry_gains (img : Image) (w : Nat) :
    (imageMapEntry img w).ear ≤ 4095 ∧ (imageMapEntry img w).up ≤ 4095 := by
  simp only [imageMapEntry, fieldBits]
  omega

theorem stepOf_bounds {top code : Nat} (h : 1 ≤ top) :
    1 ≤ stepOf top code ∧ stepOf top code ≤ 2 ^ (top - 1) := by
  have hexp : clampTo 1 top code - 1 ≤ top - 1 := by simp only [clampTo]; omega
  exact ⟨Nat.one_le_two_pow, Nat.pow_le_pow_right (by decide) hexp⟩

theorem duckTarget_le {code : Nat} (h : code < 256) : duckTarget code ≤ 1024 := by
  simp only [duckTarget]
  split <;> omega

/-- An image that passes the checks gives settings in range. -/
theorem imageSettings_inRange {img : Image} (h : imagePasses img) :
    (imageSettings img).InRange := by
  obtain ⟨-, -, hstation, hwearer, hgroup⟩ := h
  have hb := byteAt_lt img
  have h0 := hb 0; have h1 := hb 2; have h3 := hb 3; have h8 := hb 8; have h9 := hb 9
  have h17 := hb 17; have h18 := hb 18; have h22 := hb 22; have h23 := hb 23; have h24 := hb 24
  have attack := stepOf_bounds (top := 11) (code := fieldAttack img) (by decide)
  have release := stepOf_bounds (top := 11) (code := fieldRelease img) (by decide)
  have limiter := stepOf_bounds (top := 13) (code := fieldLimiter img) (by decide)
  have group (n : Nat) (hn : n < 65536) (hne : imageWord img 2 ≠ n) :
      (imageSettings img).group ≠ BitVec.ofNat 16 n := by
    intro heq
    have hto := congrArg BitVec.toNat heq
    simp only [imageSettings, BitVec.toNat_ofNat, imageWord, Nat.reduceAdd] at hto hne
    omega
  refine ⟨hstation, ?_, ⟨group 0 (by decide) hgroup.1, group 65535 (by decide) hgroup.2⟩,
    ?_, ?_, ?_, ?_, ?_, ?_, ?_, ?_, ?_, ?_, duckTarget_le (hb 19), duckTarget_le (hb 20), ?_,
    attack, release, limiter, ?_, ?_, ?_, ?_⟩
  · simp only [imageSettings, fieldBits]; omega
  · simp only [imageSettings, clampTo]; omega
  · simp only [imageSettings, fieldBits]; omega
  · simp only [imageSettings, fieldBits]; omega
  · simp only [imageSettings, clampTo]; omega
  · simp only [imageSettings, fieldBits]; omega
  · simp only [imageSettings, clampTo]; omega
  · simp only [imageSettings, fieldBits]; omega
  · simp only [imageSettings, clampTo]; omega
  · simp only [imageSettings]; omega
  · simp only [imageSettings]; omega
  · simp only [imageSettings, clampTo]; omega
  · simp only [imageSettings, fieldBits]; omega
  · simp only [imageSettings, fieldBits]; omega
  · simp [imageSettings]
  · intro e he
    obtain ⟨i, -, rfl⟩ := List.mem_map.1 he
    exact imageMapEntry_gains img (i + 1)

/-- Settles O4: each field by the bytes that hold it, its clamping, and the test for it. -/
theorem settingsAreDecodedAndClamped : Obligations.SettingsAreDecodedAndClamped := by
  intro img
  dsimp only
  have hb := byteAt_lt img
  have h0 := hb 0; have h2 := hb 2; have h3 := hb 3; have h4 := hb 4; have h5 := hb 5
  have h6 := hb 6; have h7 := hb 7; have h8 := hb 8; have h9 := hb 9; have h10 := hb 10
  have h11 := hb 11; have h12 := hb 12; have h13 := hb 13; have h14 := hb 14; have h15 := hb 15
  have h16 := hb 16; have h21 := hb 21; have h22 := hb 22; have h23 := hb 23; have h24 := hb 24
  have hjoin : fieldJoin img = img.byteAt 8 % 64 := by simp [fieldJoin, fieldBits]
  have hgrant : fieldGrant img = img.byteAt 9 / 8 := by simp only [fieldGrant, fieldBits]; omega
  have hattack : fieldAttack img = img.byteAt 10 / 16 := fieldBits_high_nibble h10
  have hrelease : fieldRelease img = img.byteAt 11 % 16 := fieldBits_low_nibble _
  have hlimiter : fieldLimiter img = img.byteAt 11 / 16 := fieldBits_high_nibble h11
  have hwait : fieldWait img = img.byteAt 12 / 16 := by
    simp only [fieldWait, fieldBits, imageWord, Nat.reduceAdd]; omega
  have hhangover : fieldHangover img = img.byteAt 14 / 2 := by
    simp only [fieldHangover, fieldBits, imageTriple, Nat.reduceAdd]; omega
  refine ⟨rfl, fieldBits_high_nibble h0, ?_, ?_, ?_, ?_, ?_, ?_, ?_, ?_, ?_, ?_, ?_, ?_, ?_,
    rfl, rfl, rfl, rfl, ?_, ?_, ?_, fun w hlow hhigh => ?_, imageSettings_inRange, ?_⟩
  · simp only [imageSettings, BitVec.toNat_ofNat, imageWord, Nat.reduceAdd]; omega
  · simp only [imageSettings, BitVec.toNat_ofNat, imageWord, Nat.reduceAdd]; omega
  · rw [← hjoin]; rfl
  · simp only [imageSettings, fieldBits]; omega
  · simp only [imageSettings, fieldBits]; omega
  · rw [← hgrant]; rfl
  · exact fieldBits_low_nibble _
  · rw [← hattack]; rfl
  · rw [← hrelease]; rfl
  · rw [← hlimiter]; rfl
  · rw [← hwait]; exact Nat.zero_max _
  · rw [← hhangover]; rfl
  · simp only [imageSettings, fieldBits, imageTriple, Nat.reduceAdd]; omega
  · exact Nat.zero_max _
  · simp only [imageSettings, fieldBits, imageTriple, Nat.reduceAdd]; omega
  · simp only [imageSettings, fieldBits, imageTriple, Nat.reduceAdd]; omega
  · have hpos : 25 + 3 * (w - 1) = 22 + 3 * w := by omega
    have he0 := hb (22 + 3 * w); have he1 := hb (23 + 3 * w); have he2 := hb (24 + 3 * w)
    have hn1 : 22 + 3 * w + 1 = 23 + 3 * w := by omega
    have hn2 : 22 + 3 * w + 2 = 24 + 3 * w := by omega
    rw [show (imageSettings img).mapEntry w = _ from imageSettings_mapEntry img hlow hhigh]
    refine ⟨?_, ?_, ?_⟩
    · simp only [imageMapEntry, fieldBits, imageTriple, hpos, hn1, hn2]; omega
    · simp only [imageMapEntry, fieldBits, imageTriple, hpos, hn1, hn2]; omega
    · have h8 : w - 1 < 8 ↔ w ≤ 8 := by omega
      have h9 : w - 1 - 8 = w - 9 := by omega
      rw [imageMapEntry, testBit_imageTriple img (by omega), h9]
      simp only [h8]
  · simp only [imageClamped, outside, hjoin, hgrant, hwait, hhangover, hattack, hrelease, hlimiter,
      Bool.or_eq_true, decide_eq_true_eq, Nat.lt_one_iff, Nat.not_lt_zero, false_or, or_assoc]

end Sys2Proof.Machine
end

section
/-! PROOFS. The Link Port and the Send Assembler's timers (sections 1.2, 4.4 and 4.5): the medium,
the access procedure, the turnaround, the ask, and the ageing of the send queue. -/

namespace Sys2Proof.Machine

/-! ## The medium (R5, R7) -/

theorem State.linkListens_iff (s : State) :
    s.linkListens = true ↔ s.running ∧ (s.lp.access = .idle ∨ s.lp.access = .defer) := by
  simp [State.linkListens]

/-- The medium has been idle for the quiet gap (R5). -/
theorem State.quietForGap_iff (s : State) : s.quietForGap = true ↔ s.QuietGap := by
  cases hm : s.lp.idleMark with
  | none => simp [State.quietForGap, State.QuietGap, hm]
  | some m =>
    simp only [State.quietForGap, State.QuietGap, hm, Bool.and_eq_true, Bool.not_eq_true',
      decide_eq_true_eq, Option.some_inj, exists_eq_left']
    rfl

theorem exec_mediumBusy (s : State) : exec .mediumBusy s = .next
    (if s.linkListens then
      { s with ports := { s.ports with mediumBusy := true }, lp := { s.lp with slotEnd := none } }
    else { s with ports := { s.ports with mediumBusy := true } }) := rfl

theorem exec_mediumIdle (s : State) : exec .mediumIdle s = .next
    (if s.linkListens && s.ports.mediumBusy then
      { s with ports := { s.ports with mediumBusy := false },
               lp := { s.lp with idleMark := some s.now } }
    else { s with ports := { s.ports with mediumBusy := false } }) := rfl

section
variable {s : State}

theorem exec_quietGapReached_of_defer {m : Nat} (hdefer : s.lp.access = .defer)
    (hidle : s.ports.mediumBusy = false) (hmark : s.lp.idleMark = some m)
    (hslot : s.lp.slotEnd = none) :
    exec .quietGapReached s = .next
      (if s.lp.backoff.getD 0 = 0 then (s.catchUp (m + quietGap)).ask
       else { s.catchUp (m + quietGap) with
        lp := { s.lp with slotEnd := some (m + quietGap + backoffSlot) } }) := by
  simp [exec, execQuietGapReached, hdefer, hidle, hmark, hslot]

theorem exec_quietGapReached_of_none (h : s.lp.access ≠ .defer ∨ s.ports.mediumBusy = true ∨
    s.lp.idleMark = none ∨ s.lp.slotEnd ≠ none) : exec .quietGapReached s = .next s := by
  simp only [exec, execQuietGapReached]
  split
  · next hdefer hmark hslot =>
    have hbusy : s.ports.mediumBusy = true := by simpa [hdefer, hmark, hslot] using h
    rw [if_pos hbusy]
  · rfl

theorem exec_backoffSlotEnd_of_slot {e : Nat} (hdefer : s.lp.access = .defer)
    (hslot : s.lp.slotEnd = some e) :
    exec .backoffSlotEnd s = .next
      (let t : State := { s.catchUp e with lp := { s.lp with
        backoff := some (s.lp.backoff.getD 0 - 1), slotEnd := some (e + backoffSlot) } }
      if s.lp.backoff.getD 0 - 1 = 0 then t.ask else t) := by
  simp [exec, execBackoffSlotEnd, hdefer, hslot]

theorem exec_backoffSlotEnd_of_none (h : s.lp.access ≠ .defer ∨ s.lp.slotEnd = none) :
    exec .backoffSlotEnd s = .next s := by
  simp only [exec, execBackoffSlotEnd]
  split
  · next hdefer hslot => simp [hdefer, hslot] at h
  · rfl

end

/-- Settles O5: the medium by whether the Link Port listens, the gap and the slots by the count. -/
theorem mediumIsCountedQuiet : Obligations.MediumIsCountedQuiet := by
  refine ⟨fun s => ?_, fun s => ⟨fun m n hdefer hidle hmark hslot hcount => ?_,
    fun e n hdefer hslot hcount => ?_, exec_quietGapReached_of_none,
    exec_backoffSlotEnd_of_none⟩⟩
  · intro listens
    have hiff : s.linkListens = true ↔ listens := s.linkListens_iff
    refine ⟨fun h => ?_, fun h => ?_, fun h hbusy => ?_, fun h => ?_⟩
    · rw [exec_mediumBusy, if_pos (hiff.2 h)]
    · rw [exec_mediumBusy, if_neg (mt hiff.1 h)]
    · rw [exec_mediumIdle, if_pos (by simp [hiff.2 h, hbusy])]
    · rw [exec_mediumIdle, if_neg]
      rcases h with hdeaf | hidle
      · simp [mt hiff.1 hdeaf]
      · simp [hidle]
  · rw [exec_quietGapReached_of_defer hdefer hidle hmark hslot, hcount]
    rfl
  · rw [exec_backoffSlotEnd_of_slot hdefer hslot, hcount]
    have hlast : n - 1 = 0 ↔ n ≤ 1 := Nat.sub_eq_zero_iff_le
    by_cases hn : n ≤ 1
    · have hzero : n - 1 = 0 := hlast.2 hn
      simp only [Option.getD_some, if_pos hn, hzero, if_true]
      rfl
    · simp only [Option.getD_some, if_neg hn, if_neg (mt hlast.1 hn)]
      rfl

/-! ## The frame-due indication (R6, R9) -/

section
variable {s : State}

theorem State.linkReact_of_idle (h : s.lp.access = .idle) :
    s.linkReact = if s.frameDue then s.accessStart else s := by
  simp only [State.linkReact, h]

theorem State.linkReact_of_defer (h : s.lp.access = .defer) :
    s.linkReact = if s.frameDue then s else s.linkIdle := by
  simp only [State.linkReact, h]

theorem State.linkReact_of_sent (h : s.lp.access = .sending ∨ s.lp.access = .turnaround) :
    s.linkReact = s := by
  rcases h with h | h <;> simp only [State.linkReact, h]

theorem State.accessStart_of_quiet (h : s.QuietGap) : s.accessStart = s.ask :=
  if_pos (s.quietForGap_iff.2 h)

theorem State.accessStart_of_not_quiet (h : ¬s.QuietGap) : s.accessStart = s.deferAccess :=
  if_neg (mt s.quietForGap_iff.1 h)

/-- A count is drawn below CW. -/
theorem State.drawBackoff_lt (s : State) {cw : Nat} (h : 0 < cw) : s.drawBackoff cw < cw :=
  Nat.mod_lt _ h

end

/-- Settles O6, by the access state; the count drawn is some number below the doubled CW. -/
theorem linkPortMeetsFrameDue : Obligations.LinkPortMeetsFrameDue := by
  intro s
  refine ⟨State.linkReact_of_sent, fun hidle hnone => ?_, fun hdefer hdue => ?_,
    fun hdefer hnone => ?_, fun hidle hdue hquiet => ?_, fun hidle hdue hquiet hcw => ?_⟩
  · rw [State.linkReact_of_idle hidle, if_neg (by simp [hnone])]
  · rw [State.linkReact_of_defer hdefer, if_pos hdue]
  · rw [State.linkReact_of_defer hdefer, if_neg (by simp [hnone])]
    rfl
  · rw [State.linkReact_of_idle hidle, if_pos hdue, State.accessStart_of_quiet hquiet]
  · have hpos : 0 < s.doubledCw := by simp only [State.doubledCw, cwMax]; omega
    refine ⟨s.drawBackoff s.doubledCw, s.drawBackoff_lt hpos, ?_⟩
    rw [State.linkReact_of_idle hidle, if_pos hdue, State.accessStart_of_not_quiet hquiet]
    rfl

/-! ## The turnaround (R10, R11) -/

section
variable {s : State}

theorem State.guardTicks_eq (s : State) : s.guardTicks = 2 * s.cfg.guard := by
  simp only [State.guardTicks, micros]
  omega

theorem exec_sendDone_of_sending (h : s.lp.access = .sending) :
    exec .sendDone s = .next
      (let t : State := { s with lp := { s.lp with
        access := .turnaround, cw := cwRest, framesSent := countUp s.lp.framesSent 1,
        sendDoneAt := some s.now } }
      if s.cfg.guard = 0 then t.endTurnaround s.now else t) := by
  simp [exec, execSendDone, h]

theorem exec_sendDone_of_not_sending (h : s.lp.access ≠ .sending) :
    exec .sendDone s = .next s := by
  cases ha : s.lp.access <;> simp_all [exec, execSendDone]

theorem exec_turnaroundExpiry_of_turnaround {d : Nat} (h : s.lp.access = .turnaround)
    (hsent : s.lp.sendDoneAt = some d) :
    exec .turnaroundExpiry s = .next ((s.catchUp (d + s.guardTicks)).endTurnaround d) := by
  simp [exec, execTurnaroundExpiry, h, hsent]

theorem exec_turnaroundExpiry_of_none (h : s.lp.access ≠ .turnaround ∨ s.lp.sendDoneAt = none) :
    exec .turnaroundExpiry s = .next s := by
  simp only [exec, execTurnaroundExpiry]
  split
  · next hturn hsent => simp [hturn, hsent] at h
  · rfl

end

/-- Settles O7, by the access state and the guard. -/
theorem sendDoneAndTurnaround : Obligations.SendDoneAndTurnaround := by
  intro s sent
  refine ⟨fun hsending hguard => ?_, fun hsending hguard => ?_, exec_sendDone_of_not_sending,
    fun d hturn hsent => ?_, exec_turnaroundExpiry_of_none⟩
  · rw [exec_sendDone_of_sending hsending]
    simp only [if_neg hguard]
    rfl
  · rw [exec_sendDone_of_sending hsending]
    simp only [if_pos hguard]
    rfl
  · rw [exec_turnaroundExpiry_of_turnaround hturn hsent, State.guardTicks_eq]
    rfl

/-! ## The ask (R8, R69 to R71, R73, R74) -/

theorem State.ask_of_none {s : State} (h : s.chooseKind = none) : s.ask = s.linkIdle := by
  simp only [State.ask, h]

theorem State.ask_of_some {s : State} {k : FrameKind} (h : s.chooseKind = some k) :
    s.ask = { s with
      lp := { s.lp with access := .sending, backoff := none, slotEnd := none }
      ports := { s.ports with radioOut := some (encodeFrame (s.frame k)) }
      sa := (s.formFrame k).1.sa } := by
  simp only [State.ask, h]
  rfl

/-- Extras stand in a TALK or PRESENCE of an ACTIVE bridge (R14). -/
theorem State.frame_extras (s : State) (k : FrameKind) :
    (s.frame k).extras =
      if s.bu.state = .active ∧ (k = .talk ∨ k = .presence) then some s.extras else none := by
  have hextras : (s.header k).hasExtras = true ↔
      s.bu.state = .active ∧ (k = .talk ∨ k = .presence) := by
    rw [Header.hasExtras, Bool.and_eq_true, Bool.or_eq_true]
    exact and_congr decide_eq_true_iff (or_congr decide_eq_true_iff decide_eq_true_iff)
  simp only [State.frame, hextras]

theorem State.senderState_toggles (s : State) (j : ReqKind) :
    s.senderState.toggles.get j = (s.cq.slots.get j).toggle := by cases j <;> rfl

theorem State.senderState_pending (s : State) (j : ReqKind) :
    s.senderState.pending.get j = (s.cq.slots.get j).timer.isSome := by cases j <;> rfl

/-- Settles O9: the frame handed over is the one formed from the state as it stands. -/
theorem askHandsOverOneFrame : Obligations.AskHandsOverOneFrame := by
  refine fun s => ⟨State.ask_of_none, fun k hk => ⟨s.frame k, rfl, rfl, rfl, rfl, rfl, rfl, rfl,
    fun j => ⟨s.senderState_toggles j, s.senderState_pending j⟩, s.frame_extras k, ?_, ?_⟩⟩
  · cases k <;> rfl
  · exact (State.ask_of_some hk).trans (by cases k <;> rfl)

/-! ## The send queue (R66, R67) -/

/-- Drops counted and flagged as one update. -/
theorem State.countDrops_eq (s : State) (n : Nat) :
    s.countDrops n =
      { s with
        sa := { s.sa with sendDrops := countUp s.sa.sendDrops n }
        cl := { s.cl with flags :=
          if n = 0 then s.cl.flags else s.cl.flags ||| stickyMask .sendDrop } } := by
  cases n with
  | zero => rfl
  | succ n => simp [State.countDrops, State.setFlagIf, State.setFlag]

theorem State.joinQueue_of_room {s : State} (h : s.sa.queue.length < 12) (e : SendEntry) :
    s.joinQueue e = { s with
      sa := { s.sa with queue := s.sa.queue ++ [e], sendDrops := countUp s.sa.sendDrops 0 } } := by
  have hroom : ¬sendLimit ≤ s.sa.queue.length := by simpa [sendLimit] using h
  simp [State.joinQueue, State.countDrops_eq, hroom]

theorem State.joinQueue_of_full {s : State} (h : 12 ≤ s.sa.queue.length) (e : SendEntry) :
    s.joinQueue e = { s with
      sa := { s.sa with
        queue := s.sa.queue.drop 1 ++ [e], sendDrops := countUp s.sa.sendDrops 1 }
      cl := { s.cl with flags := s.cl.flags ||| stickyMask .sendDrop } } := by
  have hfull : sendLimit ≤ s.sa.queue.length := h
  simp [State.joinQueue, State.countDrops_eq, hfull]

/-- The entries that ageing leaves in the queue (R67). -/
def State.young (s : State) : List SendEntry :=
  s.sa.queue.filter (fun e => seqAhead e.seq s.cu.captureCount < 12)

theorem State.ageQueue_eq (s : State) :
    s.ageQueue =
      { s with
        sa := { s.sa with
          queue := s.young
          sendDrops := countUp s.sa.sendDrops (s.sa.queue.length - s.young.length) }
        cl := { s.cl with flags :=
          if s.sa.queue.length - s.young.length = 0 then s.cl.flags
          else s.cl.flags ||| stickyMask .sendDrop } } := by
  simp only [State.ageQueue, State.countDrops_eq]
  rfl

/-- Settles O11: a join by whether there is room, and the ageing as one update. -/
theorem sendQueueDropsAndAges : Obligations.SendQueueDropsAndAges := by
  refine fun s => ⟨fun e hroom => ?_, fun e old rest hqueue hfull => ?_, s.ageQueue_eq⟩
  · rw [State.joinQueue_of_room hroom]
    exact ⟨rfl, rfl, rfl⟩
  · have hlen : 12 ≤ s.sa.queue.length := by simpa [hqueue] using hfull
    rw [State.joinQueue_of_full hlen]
    exact ⟨by simp [hqueue], rfl, rfl⟩

/-! ## The timers of the Send Assembler (R69, R70) -/

section
variable {s : State} {e : Nat}

theorem exec_hailTimerExpiry_of_some (h : s.sa.hailTimer = some e) :
    exec .hailTimerExpiry s = .next (State.linkReact
      { s.catchUp e with sa := { s.sa with
        hailTimer := none, hailDue := s.sa.hailDue || s.ru.window.isSome } }) := by
  simp [exec, execHailTimerExpiry, h]

theorem exec_presenceTimerExpiry_of_some (h : s.sa.presenceTimer = some e) :
    exec .presenceTimerExpiry s = .next (State.linkReact
      { s.catchUp e with sa := { s.sa with
        presenceTimer := none, scheduledDue := true,
        promotionTimer := some (e + presenceInterval) } }) := by
  simp [exec, execPresenceTimerExpiry, h]

theorem exec_presencePromotion_of_some (h : s.sa.promotionTimer = some e) :
    exec .presencePromotion s = .next
      { s.catchUp e with sa := { s.sa with
        promotionTimer := none, scheduledDue := false, promptDue := true } } := by
  simp [exec, execPresencePromotion, h]

theorem exec_hailTimerExpiry_of_none (h : s.sa.hailTimer = none) :
    exec .hailTimerExpiry s = .next s := by
  simp [exec, execHailTimerExpiry, h]

theorem exec_presenceTimerExpiry_of_none (h : s.sa.presenceTimer = none) :
    exec .presenceTimerExpiry s = .next s := by
  simp [exec, execPresenceTimerExpiry, h]

theorem exec_presencePromotion_of_none (h : s.sa.promotionTimer = none) :
    exec .presencePromotion s = .next s := by
  simp [exec, execPresencePromotion, h]

end

/-- Settles O12, by whether the timer runs. -/
theorem sendTimersExpire : Obligations.SendTimersExpire := fun _ =>
  ⟨fun _ => exec_hailTimerExpiry_of_some, fun _ => exec_presenceTimerExpiry_of_some,
    fun _ => exec_presencePromotion_of_some, exec_hailTimerExpiry_of_none,
    exec_presenceTimerExpiry_of_none, exec_presencePromotion_of_none⟩

end Sys2Proof.Machine
end

section
/-! PROOFS. Entering and leaving the bridge role (chapter 7): CALL_ON, CALL_OFF and the changes of
AUDIO_READY. -/

namespace Sys2Proof.Machine

/-! ## The bridge in view and the followed bridge (R142, R143) -/

/-- The bridge in view of a state that is not ACTIVE, by the peer table alone (R142). -/
def activePeer (ps : List Peer) : Option Nat := (ps.find? Peer.showsActive).map (·.station)

theorem State.bridgeInView_eq_activePeer {s : State} (h : s.bu.state ≠ .active) :
    s.bridgeInView = activePeer s.ru.peers := if_neg h

/-- A change of the entries that keeps state, header and station keeps the bridge in view. -/
theorem activePeer_map {f : Peer → Peer} (hstation : ∀ p, (f p).station = p.station)
    (hstate : ∀ p, (f p).state = p.state) (hheader : ∀ p, (f p).header = p.header)
    (ps : List Peer) : activePeer (ps.map f) = activePeer ps := by
  have hshows (p : Peer) : (f p).showsActive = p.showsActive := by
    simp only [Peer.showsActive, hstate, hheader]
  simp only [activePeer, List.find?_map, Option.map_map, Function.comp_def, hstation, hshows]

/-- The evaluation of the followed bridge as one update (R142, R143, R99, R168). -/
theorem State.evaluateFollowed_eq (s : State) :
    s.evaluateFollowed =
      { s with
        bu := { s.bu with followed := s.bridgeInView }
        cl := { s.cl with flags :=
          s.cl.flags ||| if s.bridgeInView = s.bu.followed then 0 else stickyMask .bridgeChange }
        rq := if s.bridgeInView = s.bu.followed then s.rq else s.rq.flush
        cq := { s.cq with
          view := if s.bridgeInView = s.bu.followed then s.cq.view else none } } := by
  by_cases h : s.bridgeInView = s.bu.followed
  · rw [State.evaluateFollowed_of_same h]
    simp [h]
  · rw [State.evaluateFollowed_of_changed h]
    simp [h]

/-- An ADMITTED entry below a station number that shows CLAIM or ACTIVE stands in the table (R130). -/
def claimBelow (own : Nat) (ps : List Peer) : Bool :=
  ps.any (fun p => p.state = .admitted && decide (p.station < own) &&
    (p.header.flags.claim || p.header.flags.active))

theorem State.lowerClaimer_eq (s : State) : s.lowerClaimer = claimBelow s.own s.ru.peers := rfl

/-- A change of the entries that keeps state, header and station keeps the lower claimers. -/
theorem claimBelow_map {f : Peer → Peer} (hstation : ∀ p, (f p).station = p.station)
    (hstate : ∀ p, (f p).state = p.state) (hheader : ∀ p, (f p).header = p.header) (own : Nat)
    (ps : List Peer) : claimBelow own (ps.map f) = claimBelow own ps := by
  simp only [claimBelow, List.any_map, Function.comp_def, hstation, hstate, hheader]

/-! ## CALL_ON (R128, R131, R133) -/

theorem State.enterClaiming_of_lower {s : State} (h : s.lowerClaimer = true) :
    s.enterClaiming =
      { s with bu := { s.bu with state := .yielded, settle := none },
               cl := { s.cl with flags := s.cl.flags ||| stickyMask .bridgeYield } } := by
  have stays (bu : BridgeUnit) : ({ s with bu := bu } : State).lowerClaimer = s.lowerClaimer := rfl
  simp [State.enterClaiming, stays, h, State.enterYielded_eq]

theorem State.enterClaiming_state_ne_active (s : State) :
    s.enterClaiming.bu.state ≠ .active := by
  cases h : s.lowerClaimer
  · simp [State.enterClaiming_of_none_lower h]
  · simp [State.enterClaiming_of_lower h]

theorem exec_callOn (s : State) : exec .callOn s = s.onCommand (fun s =>
    let t : State := { s with bu := { s.bu with callFlag := true } }
    (if t.bu.state = .off ∧ t.isolated = false then t.enterClaiming else t).evaluateFollowed) := rfl

/-- Settles O28, by whether the Bridge Unit claims and by the lower claimers. -/
theorem callOnClaimsTheBridge : Obligations.CallOnClaimsTheBridge := by
  refine fun s => ⟨fun hr => ?_, fun hr hfollowed => ?_⟩
  · rw [exec_callOn, State.onCommand_of_not_running hr]
  intro flagged
  have claims (hoff : s.bu.state = .off) (hready : s.ports.audioReady = true) :
      exec .callOn s = .next (State.enterClaiming { s with bu := flagged }).evaluateFollowed := by
    rw [exec_callOn, State.onCommand_of_running hr]
    simp [flagged, State.isolated, hoff, hready]
  refine ⟨fun h => ?_, fun hoff hready hlower => ?_, fun hoff hready hlower => ?_⟩
  · have hnot : ¬(s.bu.state = .off ∧ s.isolated = false) := by
      simpa [State.isolated, imp_iff_not_or] using h
    rw [exec_callOn, State.onCommand_of_running hr]
    simp only [flagged]
    rw [if_neg (by exact hnot), State.evaluateFollowed_of_same (by exact hfollowed.symm)]
  · have hview : s.bridgeInView = activePeer s.ru.peers :=
      State.bridgeInView_eq_activePeer (by simp [hoff])
    rw [claims hoff hready, State.enterClaiming_of_none_lower (by exact hlower),
      State.evaluateFollowed_of_same]
    exact (State.bridgeInView_eq_activePeer (by simp)).trans (hview.symm.trans hfollowed.symm)
  · have hview : s.bridgeInView = activePeer s.ru.peers :=
      State.bridgeInView_eq_activePeer (by simp [hoff])
    rw [claims hoff hready, State.enterClaiming_of_lower (by exact hlower),
      State.evaluateFollowed_of_same]
    · rfl
    · exact (State.bridgeInView_eq_activePeer (by simp)).trans (hview.symm.trans hfollowed.symm)

/-! ## Entering OFF (R129, R137, R139) -/

theorem State.enterOff_of_not_active {s : State} (h : s.bu.state ≠ .active) :
    s.enterOff = { s with bu := { s.bu with state := .off, settle := none } } := by
  simp only [State.enterOff, if_neg h]

/-- From ACTIVE the CALL entries go and the bridge term ends (R65, R164). -/
theorem State.enterOff_of_active {s : State} (h : s.bu.state = .active) :
    s.enterOff =
      { s with
        bu := { s.bu with state := .off, settle := none }
        sa := { s.sa with queue := s.sa.queue.filter (fun e => e.tag = .voice) }
        ru := { s.ru with peers := s.ru.peers.map Peer.unseen }
        cq := { s.cq with holder := none, grant := none, floorQueue := [],
                          latches := ⟨false, false⟩ }
        cl := { s.cl with
          outcomes := { s.cl.outcomes with
            answer := if s.cq.latches.answer then .dropped else s.cl.outcomes.answer
            hangup := if s.cq.latches.hangup then .dropped else s.cl.outcomes.hangup }
          flags := s.cl.flags |||
            (if s.cq.holder.isSome then stickyMask .floorChange else 0) |||
            (if s.cq.latches.answer || s.cq.latches.hangup then stickyMask .reqOutcome
              else 0) } } := by
  simp only [State.enterOff, if_pos h, State.leaveActive, State.endTerm_eq]
  rfl

theorem State.enterOff_bu (s : State) :
    s.enterOff.bu = { s.bu with state := .off, settle := none } := by
  by_cases h : s.bu.state = .active
  · rw [State.enterOff_of_active h]
  · rw [State.enterOff_of_not_active h]

/-- Leaving the role takes nothing from the table by which a bridge is followed. -/
theorem State.enterOff_bridgeInView (s : State) :
    s.enterOff.bridgeInView = activePeer s.ru.peers := by
  rw [State.bridgeInView_eq_activePeer (by simp [State.enterOff_bu])]
  by_cases h : s.bu.state = .active
  · rw [State.enterOff_of_active h]
    exact activePeer_map (f := Peer.unseen) (fun _ => rfl) (fun _ => rfl) (fun _ => rfl) _
  · rw [State.enterOff_of_not_active h]

/-- No entry of the table is the station itself. -/
theorem State.activePeer_ne_own {s : State} (h : s.RosterOk) :
    activePeer s.ru.peers ≠ some s.own := by
  obtain ⟨-, -, hpeers, -⟩ := h
  intro heq
  obtain ⟨p, hp, hown⟩ := Option.map_eq_some_iff.1 heq
  exact (hpeers p (List.mem_of_find?_eq_some hp)).2.1 hown

theorem exec_callOff (s : State) : exec .callOff s = s.onCommand (fun s =>
    State.linkReact (State.evaluateFollowed
      (State.enterOff { s with bu := { s.bu with callFlag := false } }))) := rfl

/-- Settles O29: outside ACTIVE the followed bridge is the one held, from ACTIVE it is another than
the station itself. -/
theorem callOffEndsTheTerm : Obligations.CallOffEndsTheTerm := by
  refine fun s => ⟨fun hr => ?_, fun hr hbridge => ⟨fun hstate => ?_, fun hactive hroster => ?_⟩⟩
  · rw [exec_callOff, State.onCommand_of_not_running hr]
  · obtain ⟨-, -, -, -, hfollowed, -⟩ := hbridge
    rw [State.bridgeInView_eq_activePeer hstate] at hfollowed
    rw [exec_callOff, State.onCommand_of_running hr, State.enterOff_of_not_active (by exact hstate),
      State.evaluateFollowed_of_same]
    exact (State.bridgeInView_eq_activePeer (by simp)).trans hfollowed.symm
  · obtain ⟨-, -, -, -, hfollowed, -⟩ := hbridge
    rw [State.bridgeInView_of_active hactive] at hfollowed
    have hview := State.enterOff_bridgeInView { s with bu := { s.bu with callFlag := false } }
    have union (a b c d : BitVec 12) : a ||| b ||| c ||| d = a ||| d ||| b ||| c := by ac_rfl
    rw [exec_callOff, State.onCommand_of_running hr, State.evaluateFollowed_of_changed, hview,
      State.enterOff_of_active (by exact hactive), union]
    · rfl
    · rw [hview, State.enterOff_bu]
      exact fun heq => State.activePeer_ne_own hroster (heq.trans hfollowed)

/-! ## AUDIO_READY (R44, R45) -/

section
variable {s : State}

theorem State.isolated_iff (s : State) : s.isolated = true ↔ s.ports.audioReady = false := by
  simp [State.isolated]

theorem exec_audioReadyFall_of_isolated (h : s.ports.audioReady = false) :
    exec .audioReadyFall s = .next s := by
  simp [exec, execAudioReadyFall, State.isolated, h]

theorem exec_audioReadyFall_of_ready (h : s.ports.audioReady = true) :
    exec .audioReadyFall s = .next
      (if s.running then s.isolate.cutSpurt.enterOff.evaluateFollowed.linkReact
       else s.isolate) := by
  simp [exec, execAudioReadyFall, State.isolated, h]

theorem exec_audioReadyRise_of_ready (h : s.ports.audioReady = true) :
    exec .audioReadyRise s = .next s := by
  simp [exec, execAudioReadyRise, State.isolated, h]

theorem exec_audioReadyRise_of_isolated (h : s.ports.audioReady = false) :
    exec .audioReadyRise s = .next
      (if s.running then
        s.rejoin.flushAll.restMix.freshScore.claimAtRise.evaluateFollowed.linkReact
       else s.rejoin) := by
  simp [exec, execAudioReadyRise, State.isolated, h]

end

theorem Peer.unseen_unseen (p : Peer) : p.unseen.unseen = p.unseen := rfl

/-- Settles O25: the fall isolates, ends the spurt, and takes the Bridge Unit to OFF, from ACTIVE with
the leaving effects. -/
theorem audioReadyFallIsolates : Obligations.AudioReadyFallIsolates := by
  refine fun s => ⟨exec_audioReadyFall_of_isolated, fun hready hr => ?_, fun hready hr => ?_⟩
  · rw [exec_audioReadyFall_of_ready hready, if_neg hr]
    rfl
  have hview := State.enterOff_bridgeInView s.isolate.cutSpurt
  have hbu := State.enterOff_bu s.isolate.cutSpurt
  refine ⟨s.isolate.cutSpurt.enterOff.evaluateFollowed, ?_, ?_⟩
  · rw [exec_audioReadyFall_of_ready hready, if_pos hr]
  rw [State.evaluateFollowed_eq, hview, hbu]
  by_cases hactive : s.bu.state = .active
  · have union (a b c d : BitVec 12) : a ||| b ||| c ||| d = a ||| d ||| b ||| c := by ac_rfl
    rw [State.enterOff_of_active (by exact hactive), union]
    refine ⟨rfl, rfl, rfl, rfl, rfl, rfl, rfl, rfl, rfl, ?_, fun _ => ⟨rfl, rfl, rfl, rfl, ?_, rfl,
      rfl⟩, fun h => absurd hactive h, rfl, rfl, rfl, rfl, rfl, rfl⟩
    · simp [Peer.unseen_unseen]
    · intro p hp
      obtain ⟨q, -, rfl⟩ := List.mem_map.1 hp
      rfl
  · rw [State.enterOff_of_not_active (by exact hactive)]
    exact ⟨rfl, rfl, rfl, rfl, rfl, rfl, rfl, rfl, rfl, rfl, fun h => absurd h hactive,
      fun _ => ⟨rfl, rfl, rfl, rfl, rfl, rfl, rfl⟩, rfl, rfl, rfl, rfl, rfl, rfl⟩

/-- The role at a rise, from the STANDBY that an isolated station is in (R45, R49). -/
theorem State.rejoin_eq {s : State} (hready : s.ports.audioReady = false) (hrole : s.RoleOk) :
    s.rejoin =
      { s with
        ports := { s.ports with audioReady := true }
        wl := { s.wl with role :=
          if (s.wl.role = .standby && !s.activeMates.any (fun p => p.header.flags.lead)) = true
          then .lead else s.wl.role } } := by
  obtain ⟨hisolated, -⟩ := hrole
  have hstandby := (hisolated (s.isolated_iff.2 hready)).1
  rw [State.rejoin, State.evaluateRole_of_standby (by exact hstandby)]
  cases hlead : s.activeMates.any (fun p => p.header.flags.lead) with
  | false =>
    rw [State.takeLead_of_leaderless rfl]
    · simp [hstandby]
    · exact fun p hp => by simpa using List.any_eq_false.1 hlead p hp
  | true =>
    rw [State.takeLead_of_barred (.inr (by exact List.any_eq_true.1 hlead))]
    simp

/-- The Bridge Unit at a rise (R131, R133, R139). -/
theorem State.claimAtRise_eq {s : State} (hoff : s.bu.state = .off) :
    s.claimAtRise =
      { s with
        bu := { s.bu with
          state := if s.bu.callFlag then (if s.lowerClaimer then .yielded else .claiming) else .off
          settle := if s.bu.callFlag then
            (if s.lowerClaimer then none else some (s.now + 6000)) else s.bu.settle }
        cl := { s.cl with flags := s.cl.flags |||
          if s.bu.callFlag && s.lowerClaimer then stickyMask .bridgeYield else 0 } } := by
  cases hflag : s.bu.callFlag with
  | false =>
    have hclaims : s.claimAtRise = s := by simp [State.claimAtRise, hflag]
    rw [hclaims, ← hoff]
    simp
  | true =>
    have hclaims : s.claimAtRise = s.enterClaiming := by simp [State.claimAtRise, hflag, hoff]
    cases hlower : s.lowerClaimer with
    | false =>
      rw [hclaims, State.enterClaiming_of_none_lower hlower]
      simp [hflag]
    | true =>
      rw [hclaims, State.enterClaiming_of_lower hlower]
      simp [hflag]

/-- What a rise sets afresh before the Bridge Unit acts: the levels, the role, the receive queues, the
Mix Engine and the score (R45, R58, R100, R125). -/
def State.afresh (s : State) (leads : Bool) : State :=
  { s with
    ports := { s.ports with audioReady := true }
    wl := { s.wl with role := if leads then .lead else s.wl.role }
    cu := { s.cu with avg := 0 }
    rq := s.rq.flush
    ru := { s.ru with peers := s.ru.peers.map Peer.flushQueue }
    me := { ear := { s.me.ear with duck := 1024, limiter := 32768 },
            up := { s.me.up with duck := 1024, limiter := 32768 }, hold := 0 } }

/-- Settles O26: the role, the flushes and the buses as one update, then the claim, then the followed
bridge, which none of them has changed. -/
theorem audioReadyRiseStartsAfresh : Obligations.AudioReadyRiseStartsAfresh := by
  intro s leads
  refine ⟨exec_audioReadyRise_of_ready, fun hready hr hrole => ?_, fun hready hr hrole hoff => ?_⟩
  · rw [exec_audioReadyRise_of_isolated hready, if_neg hr, State.rejoin_eq hready hrole]
  have hr' : s.rejoin.flushAll.restMix.freshScore = s.afresh leads := by
    rw [State.rejoin_eq hready hrole]
    rfl
  have hlower : (s.afresh leads).lowerClaimer = s.lowerClaimer :=
    claimBelow_map (f := Peer.flushQueue) (fun _ => rfl) (fun _ => rfl) (fun _ => rfl) _ _
  have hview : (s.afresh leads).claimAtRise.bridgeInView = s.bridgeInView := by
    have hstate : (s.afresh leads).claimAtRise.bu.state ≠ .active := by
      rw [State.claimAtRise_eq (by exact hoff)]
      split_ifs <;> simp
    rw [State.bridgeInView_eq_activePeer hstate,
      State.bridgeInView_eq_activePeer (s := s) (by simp [hoff])]
    simp only [State.claimAtRise_frame]
    exact activePeer_map (f := Peer.flushQueue) (fun _ => rfl) (fun _ => rfl) (fun _ => rfl) _
  refine ⟨(s.afresh leads).claimAtRise.evaluateFollowed, ?_, ?_⟩
  · rw [exec_audioReadyRise_of_isolated hready, if_pos hr, hr']
  rw [State.evaluateFollowed_eq, hview, State.claimAtRise_eq (by exact hoff), hlower]
  refine ⟨rfl, rfl, rfl, ?_, rfl, rfl, rfl, rfl, fun hflag => ?_, rfl, rfl, rfl, rfl, rfl, rfl, rfl⟩
  · split_ifs <;> rfl
  · exact if_pos hflag

end Sys2Proof.Machine
end

section
/-! PROOFS. The control line (chapter 9): JOIN, REQ, STATUS and the unknown bytes, with the timers of
requests, floor and reports, and the receive filter (section 1.1). -/

namespace Sys2Proof.Machine

/-! ## JOIN and the join window (R25, R26) -/

section
variable {s : State}

theorem State.startWindow_eq (s : State) : s.startWindow =
    { s with ru := { s.ru with window := some (s.now + 100000 * s.cfg.joinTime) } } := by
  rw [State.startWindow, seconds, Nat.mul_comm]

theorem exec_join_of_not_running (h : ¬s.running) : exec .join s = .next s := by
  simp [exec, execJoin, h]

theorem exec_join_of_closed (hr : s.running) (h : s.ru.window = none) :
    exec .join s = .next s.startWindow.freshWindow.hailOpen.linkReact := by
  simp [exec, execJoin, hr, h]

theorem exec_join_of_open (hr : s.running) (h : s.ru.window ≠ none) :
    exec .join s = .next s.startWindow := by
  simp [exec, execJoin, hr, Option.isSome_iff_ne_none.2 h]

theorem exec_joinWindowExpiry_of_open {e : Nat} (h : s.ru.window = some e) :
    exec .joinWindowExpiry s = .next (s.catchUp e).closeWindow.linkReact := by
  simp [exec, execJoinWindowExpiry, h]

theorem exec_joinWindowExpiry_of_closed (h : s.ru.window = none) :
    exec .joinWindowExpiry s = .next s := by
  simp [exec, execJoinWindowExpiry, h]

end

/-- Settles O20, by whether the window is open. -/
theorem joinOpensAndExpiryClosesWindow : Obligations.JoinOpensAndExpiryClosesWindow := by
  refine fun s => ⟨exec_join_of_not_running, fun hr hclosed => ?_, fun hr hopen => ?_,
    fun e => exec_joinWindowExpiry_of_open, exec_joinWindowExpiry_of_closed⟩
  · rw [exec_join_of_closed hr hclosed, State.startWindow_eq]
    rfl
  · rw [exec_join_of_open hr hopen, State.startWindow_eq]

/-! ## REQ (R146) -/

theorem exec_req (k : ReqKind) (s : State) : exec (.req k) s = s.onCommand (fun s =>
    (if s.bu.state = .active then s.requestHere k else s.requestAfar k).linkReact) := rfl

section
variable {s : State} {k : ReqKind}

theorem State.requestAfar_of_idle (h : (s.cq.slots.get k).timer = none) :
    s.requestAfar k =
      s.setSlot k ⟨!(s.cq.slots.get k).toggle, some (s.now + requestTime), false⟩ := by
  simp [State.requestAfar, Slot.pending, h]

theorem State.requestAfar_of_pending (h : (s.cq.slots.get k).timer ≠ none) :
    s.requestAfar k = s.record k .busy := by
  simp [State.requestAfar, Slot.pending, Option.isSome_iff_ne_none, h]

end

/-- Settles O31, by the bridge state and the slot. -/
theorem requestCommandTakesItsSlot : Obligations.RequestCommandTakesItsSlot := by
  refine fun k s => ⟨fun hr => ?_, fun hr hafar hidle => ?_, fun hr hafar hpending => ?_,
    fun hr hactive hidle => ?_⟩
  · rw [exec_req, State.onCommand_of_not_running hr]
  · rw [exec_req, State.onCommand_of_running hr, if_neg hafar, State.requestAfar_of_idle hidle]
    rfl
  · rw [exec_req, State.onCommand_of_running hr, if_neg hafar,
      State.requestAfar_of_pending hpending]
    rfl
  · rw [exec_req, State.onCommand_of_running hr, if_pos hactive]
    cases k <;> rfl

/-! ## The timers of requests, grant and view (R149, R161, R167) -/

section
variable {s : State}

theorem exec_requestTimeout_of_pending {k : ReqKind} {e : Nat}
    (h : (s.cq.slots.get k).timer = some e) :
    exec (.requestTimeout k) s = .next (((s.catchUp e).setSlot k
      { s.cq.slots.get k with timer := none, late := true }).record k .timeout) := by
  simp [exec, execRequestTimeout, h]

theorem exec_requestTimeout_of_idle {k : ReqKind} (h : (s.cq.slots.get k).timer = none) :
    exec (.requestTimeout k) s = .next s := by
  simp [exec, execRequestTimeout, h]

theorem exec_floorGrantExpiry_of_some {e : Nat} (h : s.cq.grant = some e) :
    exec .floorGrantExpiry s = .next (s.catchUp e).endGrant := by
  simp [exec, execFloorGrantExpiry, h]

theorem exec_floorGrantExpiry_of_none (h : s.cq.grant = none) :
    exec .floorGrantExpiry s = .next s := by
  simp [exec, execFloorGrantExpiry, h]

theorem exec_floorViewExpiry_of_some {v : FloorView} (h : s.cq.view = some v) :
    exec .floorViewExpiry s = .next
      { s.catchUp v.timer with cq := { s.cq with view := none } } := by
  simp [exec, execFloorViewExpiry, h]

theorem exec_floorViewExpiry_of_none (h : s.cq.view = none) :
    exec .floorViewExpiry s = .next s := by
  simp [exec, execFloorViewExpiry, h]

end

/-- Settles O33, by whether the timer runs, and for a grant by who waits. -/
theorem requestAndFloorTimersExpire : Obligations.RequestAndFloorTimersExpire := by
  refine fun s => ⟨fun k e hpending => ?_, fun e hgrant hnone => ?_,
    fun e n rest hgrant hqueue => ?_, fun v => exec_floorViewExpiry_of_some,
    fun k => exec_requestTimeout_of_idle, exec_floorGrantExpiry_of_none,
    exec_floorViewExpiry_of_none⟩
  · rw [exec_requestTimeout_of_pending hpending]
    rfl
  · rw [exec_floorGrantExpiry_of_some hgrant,
      State.endGrant_of_none_waiting (s := s.catchUp e) hnone]
    rfl
  · rw [exec_floorGrantExpiry_of_some hgrant,
      State.endGrant_of_oldest (s := s.catchUp e) hqueue, State.grantEnds_eq]
    rfl

/-! ## STATUS and REPORT_SENT (R172, R173) -/

section
variable {s : State}

theorem State.pairOnItsWay_iff (s : State) :
    s.pairOnItsWay = true ↔ (∃ r, s.cl.sending = some r ∧ r.inPair = true) ∨
      ∃ r ∈ s.cl.waiting, r.inPair = true := by
  simp [State.pairOnItsWay, Option.any_eq_true]

theorem exec_status_of_loading (h : s.sl.state = .loading) : exec .status s = .next s := by
  simp [exec, execStatus, h]

theorem exec_status_of_loaded (h : s.sl.state ≠ .loading) :
    exec .status s = .next (if s.pairOnItsWay then s else s.formPair) := by
  cases hs : s.sl.state <;> simp_all [exec, execStatus]

/-- With nothing sent the STATUS starts and the ROSTER waits behind it (assumption 20). -/
theorem State.formPair_of_none_sent (h : s.cl.sending = none) :
    s.formPair = { s with cl := { s.cl with
      flags := 0, outcomes := PerKind.all .nothing, sending := some s.statusReport,
      waiting := s.cl.waiting ++ [s.rosterReport] } } := by
  simp [State.formPair, State.pushReport, h]

/-- Behind a report being sent both wait. -/
theorem State.formPair_of_sending (h : s.cl.sending ≠ none) :
    s.formPair = { s with cl := { s.cl with
      flags := 0, outcomes := PerKind.all .nothing,
      waiting := s.cl.waiting ++ [s.statusReport, s.rosterReport] } } := by
  obtain ⟨r, hr⟩ := Option.ne_none_iff_exists'.1 h
  simp [State.formPair, State.pushReport, hr]

theorem exec_reportSent_of_none (h : s.cl.sending = none) : exec .reportSent s = .next s := by
  simp [exec, execReportSent, h]

theorem exec_reportSent_of_some {r : Report} (h : s.cl.sending = some r) :
    exec .reportSent s = .next { s with cl := { s.cl with
      sending := s.cl.waiting.head?, waiting := s.cl.waiting.drop 1 } } := by
  simp [exec, execReportSent, h]

end

/-- Settles O34, by the pair on its way and by what is being sent. -/
theorem statusFormsOnePairInOrder : Obligations.StatusFormsOnePairInOrder := by
  intro s inPair onItsWay cleared
  have hpair : s.pairOnItsWay = true ↔ onItsWay := s.pairOnItsWay_iff
  refine ⟨exec_status_of_loading, fun hloaded hway => ?_, fun hloaded hway hsend hwait => ?_,
    fun hloaded hway hsend => ?_, exec_reportSent_of_none,
    fun r hsend => ⟨fun hwait => ?_, fun r' rest hwait => ?_⟩⟩
  · rw [exec_status_of_loaded hloaded, if_pos (hpair.2 hway)]
  · rw [exec_status_of_loaded hloaded, if_neg (mt hpair.1 hway),
      State.formPair_of_none_sent hsend, hwait]
    rfl
  · rw [exec_status_of_loaded hloaded, if_neg (mt hpair.1 hway), State.formPair_of_sending hsend]
    rfl
  · rw [exec_reportSent_of_some hsend]
    simp [hwait]
  · rw [exec_reportSent_of_some hsend, hwait]
    rfl

/-! ## The command bytes (R169, R171) -/

/-- The byte of a command, as the table's upper and lower four bits (section 9.1). -/
theorem commandOfByte_eq_none_iff (b : Byte) : commandOfByte b = none ↔
    b.toNat / 16 = 0 ∨ 10 ≤ b.toNat / 16 ∨ (b.toNat / 16 = 7 ∧ 4 ≤ b.toNat % 16) ∨
    (b.toNat / 16 = 8 ∧ 2 ≤ b.toNat % 16) ∨
    (b.toNat / 16 ≠ 7 ∧ b.toNat / 16 ≠ 8 ∧ b.toNat % 16 ≠ 0) := by
  revert b
  decide

/-- The table read backwards: a byte's command has that byte. -/
theorem byteOfCommand_of_commandOfByte (b : Byte) :
    (commandOfByte b).all (fun c => byteOfCommand c = some b) = true := by
  revert b
  decide

theorem commandOfLine_of_some {b : Byte} {c : Instr} (h : commandOfByte b = some c) :
    commandOfLine b true = c := by
  simp only [commandOfLine, h]

theorem commandOfLine_of_unknown {b : Byte} {stopBit : Bool}
    (h : stopBit = false ∨ commandOfByte b = none) :
    commandOfLine b stopBit = .unknownCommand b stopBit := by
  rcases h with rfl | h
  · rfl
  · cases stopBit <;> simp only [commandOfLine, h]

section
variable {s : State} {b : Byte} {stopBit : Bool}

theorem exec_unknownCommand_of_named {c : Instr} (h : commandOfByte b = some c) :
    exec (.unknownCommand b true) s = .refused (.namesACommand b) := by
  simp [exec, execUnknownCommand, h]

theorem exec_unknownCommand_of_unknown (h : stopBit = false ∨ commandOfByte b = none) :
    exec (.unknownCommand b stopBit) s = s.onCommand (fun s =>
      { s with cl := { s.cl with unknownCommands := countUp s.cl.unknownCommands 1 } }) := by
  rcases h with h | h <;> simp [exec, execUnknownCommand, h]

end

/-- Settles O35: the bytes by the table, the counting by the loader state. -/
theorem unknownBytesOnlyCount : Obligations.UnknownBytesOnlyCount := by
  refine ⟨commandOfByte_eq_none_iff, fun b c h => ?_, fun b c hknown h => ?_,
    fun b c s h => ⟨commandOfLine_of_some h, exec_unknownCommand_of_named h⟩,
    fun b stopBit s h => ⟨commandOfLine_of_unknown h, fun hr => ?_, fun hr => ?_⟩⟩
  · simpa [h] using byteOfCommand_of_commandOfByte b
  · cases c with
    | req k => cases k <;> obtain rfl := Option.some.inj h <;> rfl
    | done k => cases k <;> obtain rfl := Option.some.inj h <;> rfl
    | join | leave | muteOn | muteOff | callOn | callOff | status =>
      obtain rfl := Option.some.inj h
      rfl
    | unknownCommand b' stopBit => exact absurd rfl (hknown b' stopBit)
    | _ => cases h
  · rw [exec_unknownCommand_of_unknown h, State.onCommand_of_running hr]
    rfl
  · rw [exec_unknownCommand_of_unknown h, State.onCommand_of_not_running hr]

/-! ## The receive filter (R1, R2) -/

section
variable {s : State} {bytes : List Byte} {good : Bool}

theorem exec_frameArrival_of_deaf (h : ¬s.linkListens = true) :
    exec (.frameArrival bytes good) s = .next s := by
  simp only [exec, execFrameArrival, if_neg h]

theorem exec_frameArrival_of_listening (h : s.linkListens = true) :
    exec (.frameArrival bytes good) s = .next (s.filterFrame bytes good).linkReact := by
  simp only [exec, execFrameArrival, if_pos h]

theorem State.filterFrame_of_check_failed (h : good = false ∨ parseFrame bytes = none) :
    s.filterFrame bytes good = s.countCheck := by
  rcases h with rfl | h
  · rfl
  · cases good <;> simp [State.filterFrame, h]

variable {f : Frame} (hparse : parseFrame bytes = some f)
include hparse

theorem State.filterFrame_of_foreign (hgroup : f.header.group ≠ s.cfg.group) :
    s.filterFrame bytes true =
      { s with lp := { s.lp with foreignFrames := countUp s.lp.foreignFrames 1 } } := by
  simp [State.filterFrame, hparse, hgroup]

theorem State.filterFrame_of_clash (hgroup : f.header.group = s.cfg.group)
    (hown : f.header.station = s.own) :
    s.filterFrame bytes true = State.setFlag
      { s with lp := { s.lp with numberClashes := countUp s.lp.numberClashes 1 } }
      .numberClash := by
  simp [State.filterFrame, hparse, hgroup, hown]

theorem State.filterFrame_of_passed (hgroup : f.header.group = s.cfg.group)
    (hother : f.header.station ≠ s.own) : s.filterFrame bytes true = s.takeArrival f := by
  simp [State.filterFrame, hparse, hgroup, hother]

end

/-- Settles O13, by the first test that fails. -/
theorem receiveFilterTakesFourTests : Obligations.ReceiveFilterTakesFourTests := by
  refine ⟨fun bytes good s hdeaf => exec_frameArrival_of_deaf ?_, fun bytes good s hr haccess => ?_⟩
  · rw [State.linkListens_iff]
    rintro ⟨hr, haccess⟩
    rcases hdeaf with hnot | hsent | hturn
    · exact hnot hr
    · simp [hsent] at haccess
    · simp [hturn] at haccess
  have hlistens := s.linkListens_iff.2 ⟨hr, haccess⟩
  refine ⟨fun hcheck => ?_, fun f hgood hparse => ⟨fun hgroup => ?_, fun hgroup hown => ?_⟩⟩
  · rw [exec_frameArrival_of_listening hlistens, State.filterFrame_of_check_failed hcheck]
    rfl
  · rw [exec_frameArrival_of_listening hlistens, hgood, State.filterFrame_of_foreign hparse hgroup]
    rfl
  · rw [exec_frameArrival_of_listening hlistens, hgood,
      State.filterFrame_of_clash hparse hgroup hown]
    rfl

/-- An arrival that passes the filter goes to the Roster Unit (R4). -/
theorem exec_frameArrival_of_passes {s : State} {bytes : List Byte} {f : Frame}
    (h : s.Passes bytes f) :
    exec (.frameArrival bytes true) s = .next (s.takeArrival f).linkReact := by
  obtain ⟨hr, haccess, hparse, hgroup, hother⟩ := h
  rw [exec_frameArrival_of_listening (s.linkListens_iff.2 ⟨hr, haccess⟩),
    State.filterFrame_of_passed hparse hgroup hother]

end Sys2Proof.Machine
end

section
/-! PROOFS. Bytes on the air and on the control line (sections 1.5 and 9.2): the layout of a frame, of
the STATUS and of the ROSTER. -/

namespace Sys2Proof.Machine

/-! ## Bits and bytes -/

theorem testBit_bitsToNat (l : List Bool) (i : Nat) : (bitsToNat l).testBit i = l.getD i false := by
  induction l generalizing i with
  | nil => simp [bitsToNat]
  | cons b bs ih =>
    have hsplit : bitsToNat (b :: bs) = Nat.bit b (bitsToNat bs) := by
      rw [Nat.bit_val, bitsToNat, Nat.add_comm]
    rw [hsplit]
    cases i with
    | zero => simp
    | succ i => rw [Nat.testBit_bit_succ, ih]; rfl

/-- Bit `i` of a byte of flags is the `i`-th flag. -/
theorem getLsbD_byte8_bitsToNat (l : List Bool) {i : Nat} (h : i < 8) :
    (byte8 (bitsToNat l)).getLsbD i = l.getD i false := by
  rw [byte8, BitVec.getLsbD_ofNat, testBit_bitsToNat]
  simp [h]

/-- The two bytes of a word of 16 bits. -/
theorem bytes16_toNat (x : BitVec 16) :
    bytes16 x.toNat = [x.extractLsb' 8 8, x.extractLsb' 0 8] := by
  have h0 : x.toNat = x.toNat / 2 ^ 0 := by simp
  simp only [bytes16, byte8, BitVec.extractLsb', Nat.shiftRight_eq_div_pow, ← h0]

/-- The four bytes of a word of 32 bits. -/
theorem bytes32_toNat (x : BitVec 32) :
    bytes32 x.toNat =
      [x.extractLsb' 24 8, x.extractLsb' 16 8, x.extractLsb' 8 8, x.extractLsb' 0 8] := by
  have h24 : x.toNat / 65536 / 256 = x.toNat / 2 ^ 24 := by omega
  have h8 : BitVec.ofNat 8 (x.toNat % 65536 / 256) = BitVec.ofNat 8 (x.toNat / 2 ^ 8) :=
    BitVec.eq_of_toNat_eq (by simp only [BitVec.toNat_ofNat]; omega)
  have h0 : BitVec.ofNat 8 (x.toNat % 65536) = BitVec.ofNat 8 (x.toNat / 2 ^ 0) :=
    BitVec.eq_of_toNat_eq (by simp only [BitVec.toNat_ofNat]; omega)
  simp only [bytes32, bytes16, byte8, BitVec.extractLsb', Nat.shiftRight_eq_div_pow, h24, h8, h0]
  rfl

/-! ## Parts of one length behind one another -/

section
variable {α β : Type} {f : α → List β} {c : Nat} (hlen : ∀ x, (f x).length = c)
include hlen

theorem length_flatMap_const (l : List α) : (l.flatMap f).length = c * l.length := by
  induction l with
  | nil => rfl
  | cons x l ih => rw [List.flatMap_cons, List.length_append, hlen, ih, List.length_cons]; ring

theorem getElem?_flatMap_const {l : List α} {j : Nat} {x : α} (hx : l[j]? = some x) {i : Nat}
    (hi : i < c) : (l.flatMap f)[c * j + i]? = (f x)[i]? := by
  induction l generalizing j with
  | nil => simp at hx
  | cons y l ih =>
    rw [List.flatMap_cons]
    cases j with
    | zero =>
      obtain rfl : y = x := by simpa using hx
      rw [List.getElem?_append_left (by rw [hlen]; omega), Nat.mul_zero, Nat.zero_add]
    | succ j =>
      have hpos : c * (j + 1) + i - c = c * j + i := by rw [Nat.mul_succ]; omega
      rw [List.getElem?_append_right (by rw [hlen, Nat.mul_succ]; omega), hlen, hpos]
      exact ih (by simpa using hx)

end

/-! ## The header (R15, R18) -/

/-- The nine bytes of a header in order. -/
theorem encodeHeader_eq (h : Header) :
    encodeHeader h = [byte8 (frameKindCode h.kind), h.group.extractLsb' 8 8,
      h.group.extractLsb' 0 8, byte8 h.station, byte8 h.wearer,
      byte8 (statusFlagsNat h.sender.flags), h.seq, byte8 h.sender.micScore,
      byte8 (bitsToNat (h.sender.toggles.toList ++ h.sender.pending.toList))] := by
  rw [encodeHeader, bytes16_toNat]
  rfl

theorem encodeFrame_eq (f : Frame) :
    encodeFrame f =
      encodeHeader f.header ++ f.extras.elim [] encodeExtras ++ encodeBody f.body := by
  unfold encodeFrame
  cases f.extras <;> rfl

theorem getLsbD_statusFlags (f : StatusFlags) {i : Nat} (h : i < 8) :
    (byte8 (statusFlagsNat f)).getLsbD i =
      [f.lead, f.muted, f.isolated, f.claim, f.active, false, false, false].getD i false := by
  rw [statusFlagsNat, getLsbD_byte8_bitsToNat _ h]
  interval_cases i <;> rfl

/-- In the request field the toggles stand in the lower half, the pending bits in the upper one. -/
theorem getLsbD_requestField (t p : PerKind Bool) (k : ReqKind) :
    (byte8 (bitsToNat (t.toList ++ p.toList))).getLsbD (reqKindNumber k) = t.get k ∧
    (byte8 (bitsToNat (t.toList ++ p.toList))).getLsbD (4 + reqKindNumber k) = p.get k := by
  cases k <;>
    exact ⟨getLsbD_byte8_bitsToNat _ (by decide), getLsbD_byte8_bitsToNat _ (by decide)⟩

theorem getLsbD_echoField (t : PerKind Bool) (k : ReqKind) :
    (byte8 (bitsToNat t.toList)).getLsbD (reqKindNumber k) = t.get k ∧
    (byte8 (bitsToNat t.toList)).getLsbD (4 + reqKindNumber k) = false := by
  cases k <;>
    exact ⟨getLsbD_byte8_bitsToNat _ (by decide), getLsbD_byte8_bitsToNat _ (by decide)⟩

/-! ## Extras, sections and lists (R18) -/

theorem length_encodeEcho (e : Echo) : (encodeEcho e).length = 2 := rfl

theorem encodeExtras_eq (x : Extras) :
    encodeExtras x = [byte8 x.holder, byte8 x.holderWearer, byte8 (x.remaining / 256),
      byte8 x.remaining, byte8 x.echoes.length] ++ x.echoes.flatMap encodeEcho := rfl

theorem length_encodeExtras (x : Extras) : (encodeExtras x).length = 5 + 2 * x.echoes.length := by
  rw [encodeExtras_eq, List.length_append, length_flatMap_const length_encodeEcho]
  rfl

theorem encodeAirBlock_eq (b : AirBlock) :
    encodeAirBlock b = [byte8 (bitsToNat [b.isStart, b.isEnd]), byte8 (b.level / 256),
      byte8 b.level] ++ b.block.samples.flatMap (fun x => bytes16 x.toNat) := rfl

theorem length_encodeAirBlock (b : AirBlock) : (encodeAirBlock b).length = 67 := by
  rw [encodeAirBlock_eq, List.length_append, length_flatMap_const (c := 2) (fun _ => rfl),
    b.block.len]
  rfl

theorem encodeSection_eq (t : TalkSection) :
    encodeSection t = [t.first.extractLsb' 8 8, t.first.extractLsb' 0 8, byte8 t.blocks.length] ++
      t.blocks.flatMap encodeAirBlock := by
  rw [encodeSection, bytes16_toNat]
  rfl

theorem length_encodeSection (t : TalkSection) :
    (encodeSection t).length = 3 + 67 * t.blocks.length := by
  rw [encodeSection_eq, List.length_append, length_flatMap_const length_encodeAirBlock]
  rfl

/-- What stands behind `c` bytes is found `c` bytes on. -/
theorem getElem?_behind {α : Type} {a b : List α} (c : Nat) (h : a.length = c) (i : Nat) :
    (a ++ b)[c + i]? = b[i]? := by
  rw [List.getElem?_append_right (by omega), h, Nat.add_sub_cancel_left]

theorem encodeHail_eq (code : BitVec 32) (l : List Nat) :
    encodeBody (.hail code l) = [code.extractLsb' 24 8, code.extractLsb' 16 8,
      code.extractLsb' 8 8, code.extractLsb' 0 8, byte8 l.length] ++ l.map byte8 := by
  rw [encodeBody, bytes32_toNat]
  rfl

/-- The byte at place `i` of the block at place `j` of a section. -/
theorem getElem?_encodeSection {t : TalkSection} {j : Nat} {a : AirBlock}
    (h : t.blocks[j]? = some a) {i : Nat} (hi : i < 67) :
    (encodeSection t)[3 + (67 * j + i)]? = (encodeAirBlock a)[i]? := by
  rw [encodeSection_eq, getElem?_behind 3 rfl, getElem?_flatMap_const length_encodeAirBlock h hi]

/-- The byte at place `i` (0 or 1) of the sample at place `j` of a block. -/
theorem getElem?_encodeAirBlock (a : AirBlock) {j : Nat} (hj : j < 32) {i : Nat} (hi : i < 2) :
    (encodeAirBlock a)[3 + (2 * j + i)]? =
      [(a.block.sample j).extractLsb' 8 8, (a.block.sample j).extractLsb' 0 8][i]? := by
  have hlen : j < a.block.samples.length := by rw [a.block.len]; exact hj
  have hsample : a.block.samples[j]? = some (a.block.sample j) := by simp [Block.sample, hlen]
  rw [encodeAirBlock_eq, getElem?_behind 3 rfl,
    getElem?_flatMap_const (c := 2) (fun _ => rfl) hsample hi, bytes16_toNat]

/-- Settles O36, part by part of R18's table. -/
theorem headerIsLaidOut : Obligations.HeaderIsLaidOut := by
  refine ⟨fun f => ?_, fun x => ?_, fun x => ?_, fun l => ?_, fun code l => ?_⟩
  · intro h b
    have hb : b = encodeHeader h ++ f.extras.elim [] encodeExtras ++ encodeBody f.body :=
      encodeFrame_eq f
    rw [encodeHeader_eq] at hb
    refine ⟨by rw [hb]; rfl, ?_, by rw [hb]; rfl, by rw [hb]; rfl, by rw [hb]; rfl,
      by rw [hb]; rfl, ⟨_, by rw [hb]; rfl, fun i hi => getLsbD_statusFlags _ hi⟩, by rw [hb]; rfl,
      by rw [hb]; rfl, ⟨_, by rw [hb]; rfl, fun k => getLsbD_requestField _ _ k⟩,
      fun v c hbody => by rw [hbody]; rfl, fun hbody => by rw [hbody]; rfl⟩
    rw [hb]
    cases h.kind <;> rfl
  · intro b
    refine ⟨length_encodeExtras x, rfl, rfl, rfl, rfl, rfl, fun j e he => ?_⟩
    have hecho {i : Nat} (hi : i < 2) : b[5 + (2 * j + i)]? = (encodeEcho e)[i]? := by
      rw [← getElem?_flatMap_const length_encodeEcho he hi]
      exact getElem?_behind 5 rfl _
    refine ⟨hecho (i := 0) (by decide), _, ?_, fun k => getLsbD_echoField e.toggles k⟩
    rw [← show 5 + (2 * j + 1) = 6 + 2 * j by omega]
    exact hecho (by decide)
  · intro b
    have hb : b = _ := encodeSection_eq x
    refine ⟨length_encodeSection x, by rw [hb]; rfl, by rw [hb]; rfl, by rw [hb]; rfl,
      fun i a ha => ?_⟩
    have hblock {k : Nat} (hk : k < 67) : b[3 + (67 * i + k)]? = (encodeAirBlock a)[k]? :=
      getElem?_encodeSection ha hk
    have hplace (k : Nat) : 3 + k + 67 * i = 3 + (67 * i + k) := by omega
    refine ⟨⟨_, hblock (k := 0) (by decide), fun k hk => getLsbD_byte8_bitsToNat _ hk⟩, ?_, ?_,
      fun j hj => ?_⟩
    · rw [hplace 1]; exact hblock (by decide)
    · rw [hplace 2]; exact hblock (by decide)
    · have hsample {k : Nat} (hk : k < 2) : b[3 + (67 * i + (3 + (2 * j + k)))]? = _ :=
        (hblock (by omega)).trans (getElem?_encodeAirBlock a hj hk)
      constructor
      · rw [show 6 + 67 * i + 2 * j = 3 + (67 * i + (3 + (2 * j + 0))) by omega]
        exact hsample (by decide)
      · rw [show 7 + 67 * i + 2 * j = 3 + (67 * i + (3 + (2 * j + 1))) by omega]
        exact hsample (by decide)
  · intro b
    refine ⟨?_, rfl, fun j n hn => ?_⟩
    · simp [b, encodeBody, encodeStationList, Nat.add_comm]
    · rw [Nat.add_comm]
      simp [b, encodeBody, encodeStationList, hn, byte8]
  · intro b
    have hb : b = _ := encodeHail_eq code l
    refine ⟨?_, by rw [hb]; rfl, by rw [hb]; rfl, by rw [hb]; rfl, by rw [hb]; rfl,
      by rw [hb]; rfl, fun j n hn => ?_⟩
    · rw [hb, List.length_append, List.length_map]
      rfl
    · rw [hb, getElem?_behind 5 rfl]
      simp [hn, byte8]

/-! ## The STATUS and the ROSTER (R174, R175) -/

/-- The number of a flags byte as the statement spells it. -/
theorem sum_zipIdx_eq_bitsToNat (l : List Bool) (k : Nat) :
    ((l.zipIdx k).map (fun x => x.1.toNat * 2 ^ x.2)).sum = 2 ^ k * bitsToNat l := by
  induction l generalizing k with
  | nil => simp [bitsToNat]
  | cons b bs ih =>
    rw [List.zipIdx_cons, List.map_cons, List.sum_cons, ih, bitsToNat]
    ring

/-- The fields before the counts of a STATUS, one byte each (R174). -/
def State.statusHead (s : State) : List Byte :=
  [byte8 (loaderCode s.sl.state), byte8 (faultNumber s.sl.fault), byte8 (bridgeCode s.bu.state),
   byte8 (s.bu.followed.getD 0), byte8 s.stationFlags,
   byte8 (s.cl.flags.toNat / 256), byte8 s.cl.flags.toNat,
   byte8 (outcomesWord s.cl.outcomes / 256), byte8 (outcomesWord s.cl.outcomes),
   byte8 (bitsToNat [s.cq.latches.answer, s.cq.latches.hangup]), byte8 (s.shownHolder.getD 0),
   byte8 (s.floorWearer.getD 0), byte8 s.ru.peers.length, byte8 s.ru.departed.length,
   byte8 (playoutCode s.rq.queue.mode), byte8 s.rq.queue.depth]

theorem State.statusFields_eq (s : State) :
    s.statusFields = s.statusHead ++ s.statusCounts.flatMap bytes16 := rfl

theorem State.statusReport_bytes (s : State) :
    s.statusReport.bytes = [1, 54] ++ s.statusHead ++ s.statusCounts.flatMap bytes16 := rfl

/-- The fields before the counts of a record in a ROSTER, one byte each (R175). -/
def State.recordHead (s : State) (p : Peer) : List Byte :=
  [byte8 p.station, byte8 p.wearer, byte8 (peerStateCode p.state),
   byte8 (bitsToNat [p.header.flags.lead, p.header.flags.muted, p.header.flags.isolated,
     p.header.flags.claim, p.header.flags.active, s.isCarrier p, p.hailedMe, p.hailMark]),
   byte8 p.header.micScore, byte8 ((p.queue.map (fun q => playoutCode q.mode)).getD 3),
   byte8 ((p.queue.map RxQueue.depth).getD 0)]

/-- The counts of a record (R175). -/
def recordCounts (p : Peer) : List Nat :=
  let c := (p.queue.map (·.counts)).getD QueueCounts.zero
  [p.frames, p.missed, c.late, c.slides, c.resyncs, c.concealed, c.breaks]

theorem State.rosterRecord_eq (s : State) (p : Peer) :
    s.rosterRecord p = s.recordHead p ++ (recordCounts p).flatMap bytes16 := rfl

theorem State.length_rosterRecord (s : State) (p : Peer) : (s.rosterRecord p).length = 21 := rfl

theorem State.rosterReport_bytes (s : State) :
    s.rosterReport.bytes = [2, byte8 (1 + 21 * s.ru.peers.length), byte8 s.ru.peers.length] ++
      s.ru.peers.flatMap s.rosterRecord := by
  have hlen : s.rosterFields.length = 1 + 21 * s.ru.peers.length := by
    rw [State.rosterFields, List.length_cons, length_flatMap_const s.length_rosterRecord,
      Nat.add_comm]
  rw [State.rosterReport, mkReport, hlen]
  rfl

/-- A count is found as a word, most significant byte first. -/
theorem getElem?_flatMap_bytes16 {l : List Nat} {i n : Nat} (h : l[i]? = some n) :
    (l.flatMap bytes16)[2 * i]? = some (byte8 (n / 256)) ∧
    (l.flatMap bytes16)[2 * i + 1]? = some (byte8 n) :=
  ⟨getElem?_flatMap_const (c := 2) (fun _ => rfl) h (i := 0) (by decide),
    getElem?_flatMap_const (c := 2) (fun _ => rfl) h (i := 1) (by decide)⟩

/-- Settles O54: the fields of one byte by their place, the counts by the words behind them. -/
theorem reportsAreLaidOut : Obligations.ReportsAreLaidOut := by
  intro s b byteAt wordAt bits
  have hbits (l : List Bool) : bits l = bitsToNat l := by
    simpa using sum_zipIdx_eq_bitsToNat l 0
  have hhead {i n : Nat} (h : s.statusHead[i]? = some (byte8 n)) : byteAt i n := by
    have hi : i < s.statusHead.length := (List.getElem?_eq_some_iff.1 h).1
    have hb : b = [1, 54] ++ s.statusHead ++ s.statusCounts.flatMap bytes16 := s.statusReport_bytes
    simp only [byteAt, hb, Nat.add_comm i 2, List.append_assoc]
    rw [getElem?_behind 2 rfl, List.getElem?_append_left hi, h]
    rfl
  have hcount {i n : Nat} (h : s.statusCounts[i]? = some n) : wordAt (16 + 2 * i) n := by
    obtain ⟨hhigh, hlow⟩ := getElem?_flatMap_bytes16 h
    have hb : b = ([1, 54] ++ s.statusHead) ++ s.statusCounts.flatMap bytes16 :=
      s.statusReport_bytes
    constructor
    · simp only [byteAt, hb, show 16 + 2 * i + 2 = 18 + 2 * i by omega]
      rw [getElem?_behind 18 rfl, hhigh]
      rfl
    · simp only [byteAt, hb, show 16 + 2 * i + 1 + 2 = 18 + (2 * i + 1) by omega]
      rw [getElem?_behind 18 rfl, hlow]
      rfl
  refine ⟨rfl, rfl, rfl, rfl, hhead ?_, hhead ?_, hhead ?_, hhead rfl, hhead ?_,
    ⟨hhead rfl, hhead rfl⟩, ⟨fun k => outcomeCode (s.cl.outcomes.get k), ⟨hhead rfl, hhead rfl⟩,
      fun k => ?_⟩, hhead ?_, hhead rfl, hhead rfl, hhead rfl, hhead rfl, hhead ?_, hhead rfl,
    fun i n h => hcount h, ?_⟩
  · cases h : s.sl.state <;> simp [State.statusHead, h, loaderCode]
  · cases h : s.sl.fault <;> simp [State.statusHead, h, faultNumber]
  · cases h : s.bu.state <;> simp [State.statusHead, h, bridgeCode]
  · rw [hbits]; rfl
  · change outcomeCode (s.cl.outcomes.get k) = _
    cases s.cl.outcomes.get k <;> rfl
  · rw [hbits]; rfl
  · cases h : s.rq.queue.mode <;> simp [State.statusHead, h, playoutCode]
  intro ro
  have hro : ro = _ := s.rosterReport_bytes
  refine ⟨rfl, ?_, by rw [hro]; rfl, by rw [hro]; rfl, by rw [hro]; rfl, fun j p hp => ?_⟩
  · rw [hro, List.length_append, length_flatMap_const s.length_rosterRecord]
    rfl
  intro f counts at'
  have hrecord {i : Nat} (hi : i < 21) : ro[3 + 21 * j + i]? = (s.rosterRecord p)[i]? := by
    rw [hro, Nat.add_assoc, getElem?_behind 3 rfl,
      getElem?_flatMap_const s.length_rosterRecord hp hi]
  have hat {i n : Nat} (hi : i < 7) (h : (s.recordHead p)[i]? = some (byte8 n)) : at' i n := by
    simp only [at']
    rw [hrecord (by omega), State.rosterRecord_eq, List.getElem?_append_left hi, h]
    rfl
  refine ⟨hat (by decide) rfl, hat (by decide) rfl, hat (by decide) ?_, hat (by decide) ?_,
    hat (by decide) rfl, hat (by decide) ?_, hat (by decide) ?_, fun i n hn => ?_⟩
  · cases h : p.state <;> simp [State.recordHead, h, peerStateCode]
  · rw [hbits]; rfl
  · cases h : p.queue with
    | none => simp [State.recordHead, h]
    | some q => cases hm : q.mode <;> simp [State.recordHead, h, hm, playoutCode]
  · cases h : p.queue <;> simp [State.recordHead, h, RxQueue.depth]
  · have hcounts : recordCounts p = [p.frames, p.missed, counts.late, counts.slides,
        counts.resyncs, counts.concealed, counts.breaks] := by
      simp only [recordCounts, counts]
      cases p.queue <;> rfl
    have hi : i < 7 := (List.getElem?_eq_some_iff.1 hn).1
    rw [← hcounts] at hn
    obtain ⟨hhigh, hlow⟩ := getElem?_flatMap_bytes16 hn
    constructor
    · simp only [at']
      rw [hrecord (by omega), State.rosterRecord_eq, getElem?_behind 7 rfl, hhigh]
      rfl
    · simp only [at', show 8 + 2 * i = 7 + (2 * i + 1) by omega]
      rw [hrecord (by omega), State.rosterRecord_eq, getElem?_behind 7 rfl, hlow]
      rfl

end Sys2Proof.Machine
end

section
/-! PROOFS. Reading and writing frames (sections 1.1, 1.5 and 4.6): each part of a frame is read back
as it was written, what is read is well-formed and as long as it says, and every frame formed is
well-formed. -/

namespace Sys2Proof.Machine

/-! ## Bytes read back -/

theorem toNat_byte8 {n : Nat} (h : n < 256) : (byte8 n).toNat = n := by
  rw [byte8, BitVec.toNat_ofNat]
  omega

theorem be16_bytes {n : Nat} (h : n < 65536) : be16 (byte8 (n / 256)) (byte8 n) = n := by
  simp only [be16, byte8, BitVec.toNat_ofNat]
  omega

theorem ofNat_be16_extract (x : BitVec 16) :
    BitVec.ofNat 16 (be16 (x.extractLsb' 8 8) (x.extractLsb' 0 8)) = x := by
  refine BitVec.eq_of_toNat_eq ?_
  have hx := x.isLt
  simp only [be16, BitVec.extractLsb'_toNat, BitVec.toNat_ofNat, Nat.shiftRight_eq_div_pow]
  omega

theorem ofNat_be32_extract (x : BitVec 32) :
    BitVec.ofNat 32 (be16 (x.extractLsb' 24 8) (x.extractLsb' 16 8) * 65536 +
      be16 (x.extractLsb' 8 8) (x.extractLsb' 0 8)) = x := by
  refine BitVec.eq_of_toNat_eq ?_
  have hx := x.isLt
  simp only [be16, BitVec.extractLsb'_toNat, BitVec.toNat_ofNat, Nat.shiftRight_eq_div_pow]
  omega

theorem frameKindOf_code (k : FrameKind) : frameKindOf (byte8 (frameKindCode k)).toNat = some k := by
  cases k <;> rfl

theorem statusFlagsOf_byte (f : StatusFlags) : statusFlagsOf (byte8 (statusFlagsNat f)) = f := by
  simp only [statusFlagsOf, getLsbD_statusFlags f (by decide : 0 < 8),
    getLsbD_statusFlags f (by decide : 1 < 8), getLsbD_statusFlags f (by decide : 2 < 8),
    getLsbD_statusFlags f (by decide : 3 < 8), getLsbD_statusFlags f (by decide : 4 < 8)]
  rfl

/-- The bits of a byte of flags from `i` on, as the four kinds. -/
theorem kindBits_byte8 (l : List Bool) {i : Nat} (h : i + 3 < 8) :
    kindBits (byte8 (bitsToNat l)) i =
      ⟨l.getD i false, l.getD (i + 1) false, l.getD (i + 2) false, l.getD (i + 3) false⟩ := by
  simp only [kindBits, getLsbD_byte8_bitsToNat l (show i < 8 by omega),
    getLsbD_byte8_bitsToNat l (show i + 1 < 8 by omega),
    getLsbD_byte8_bitsToNat l (show i + 2 < 8 by omega), getLsbD_byte8_bitsToNat l h]

/-! ## The header (R3, R18) -/

theorem parseHeader_encode {h : Header} (hwf : h.WellFormed) (rest : List Byte) :
    parseHeader (encodeHeader h ++ rest) = some (h, rest) := by
  obtain ⟨⟨hst1, hst⟩, ⟨hw1, hw⟩, hmic, hflags⟩ := hwf
  have htoggles := kindBits_byte8 (h.sender.toggles.toList ++ h.sender.pending.toList)
    (show 0 + 3 < 8 by decide)
  have hpending := kindBits_byte8 (h.sender.toggles.toList ++ h.sender.pending.toList)
    (show 4 + 3 < 8 by decide)
  rw [encodeHeader_eq]
  simp only [List.cons_append, List.nil_append, parseHeader, frameKindOf_code, statusFlagsOf_byte,
    toNat_byte8 (show h.station < 256 by omega), toNat_byte8 (show h.wearer < 256 by omega),
    toNat_byte8 (show h.sender.micScore < 256 by omega), ofNat_be16_extract, htoggles, hpending]
  rw [if_pos ⟨hst1, hst, hw1, hw, hflags⟩]
  rfl

theorem parseHeader_sound {bs : List Byte} {h : Header} {rest : List Byte}
    (hparse : parseHeader bs = some (h, rest)) :
    h.WellFormed ∧ bs.length = 9 + rest.length := by
  unfold parseHeader at hparse
  split at hparse
  · split at hparse
    · cases hparse
    · split at hparse
      · next hchecks =>
        obtain ⟨rfl, rfl⟩ : _ ∧ _ := by simpa using hparse
        obtain ⟨hst1, hst, hw1, hw, hflags⟩ := hchecks
        exact ⟨⟨⟨hst1, hst⟩, ⟨hw1, hw⟩, Nat.le_of_lt_succ (BitVec.isLt _), hflags⟩,
          by simp only [List.length_cons]; omega⟩
      · cases hparse
  · cases hparse

/-! ## Lists of stations (R3, R18) -/

theorem stationListOk_iff (l : List Nat) :
    stationListOk l = true ↔ (∀ n ∈ l, stationNumber n) ∧ l.Pairwise (· < ·) := by
  simp [stationListOk]

theorem parseStations_encode {l : List Nat} (h : ∀ n ∈ l, n < 256) (rest : List Byte) :
    parseStations l.length (l.map byte8 ++ rest) = some (l, rest) := by
  induction l with
  | nil => rfl
  | cons n l ih =>
    obtain ⟨hn, hl⟩ := List.forall_mem_cons.1 h
    simp only [List.length_cons, List.map_cons, List.cons_append, parseStations, ih hl,
      toNat_byte8 hn]

theorem parseStations_sound {n : Nat} {bs : List Byte} {l : List Nat} {rest : List Byte}
    (h : parseStations n bs = some (l, rest)) :
    l.length = n ∧ bs.length = n + rest.length := by
  induction n generalizing bs l with
  | zero =>
    obtain ⟨rfl, rfl⟩ : _ ∧ _ := by simpa [parseStations] using h
    simp
  | succ n ih =>
    cases bs with
    | nil => cases h
    | cons b bs =>
      simp only [parseStations] at h
      split at h
      · next l' rest' hrest =>
        obtain ⟨rfl, rfl⟩ : _ ∧ _ := by simpa using h
        obtain ⟨hlen, hbs⟩ := ih hrest
        exact ⟨by rw [List.length_cons, hlen], by rw [List.length_cons, hbs]; omega⟩
      · cases h

theorem parseStationList_encode {l : List Nat} (h : stationsWellFormed l) (rest : List Byte) :
    parseStationList (encodeStationList l ++ rest) = some (l, rest) := by
  obtain ⟨hlen, hnumbers, hsorted⟩ := h
  have hbytes : ∀ n ∈ l, n < 256 := fun n hn => Nat.lt_of_le_of_lt (hnumbers n hn).2 (by decide)
  have hok := (stationListOk_iff l).2 ⟨hnumbers, hsorted⟩
  simp only [encodeStationList, List.cons_append, parseStationList,
    toNat_byte8 (show l.length < 256 by omega), if_pos hlen, parseStations_encode hbytes, if_pos hok]

theorem parseStationList_sound {bs : List Byte} {l : List Nat} {rest : List Byte}
    (h : parseStationList bs = some (l, rest)) :
    stationsWellFormed l ∧ bs.length = 1 + l.length + rest.length := by
  cases bs with
  | nil => cases h
  | cons c bs =>
    simp only [parseStationList] at h
    split_ifs at h with hcount
    split at h
    · next l' rest' hrest =>
      split_ifs at h with hok
      obtain ⟨rfl, rfl⟩ : _ ∧ _ := by simpa using h
      obtain ⟨hlen, hbs⟩ := parseStations_sound hrest
      exact ⟨⟨by omega, (stationListOk_iff _).1 hok⟩, by rw [List.length_cons]; omega⟩
    · cases h

/-! ## Bridge extras (R3, R18) -/

theorem kindBits_echo (t : PerKind Bool) : kindBits (byte8 (bitsToNat t.toList)) 0 = t :=
  kindBits_byte8 t.toList (by decide)

theorem parseEchoes_encode {l : List Echo} (h : ∀ e ∈ l, e.station < 256) (rest : List Byte) :
    parseEchoes l.length (l.flatMap encodeEcho ++ rest) = some (l, rest) := by
  induction l with
  | nil => rfl
  | cons e l ih =>
    obtain ⟨he, hl⟩ := List.forall_mem_cons.1 h
    simp only [List.length_cons, List.flatMap_cons, encodeEcho, List.cons_append, List.nil_append,
      parseEchoes, ih hl, toNat_byte8 he, kindBits_echo]

theorem parseEchoes_sound {n : Nat} {bs : List Byte} {l : List Echo} {rest : List Byte}
    (h : parseEchoes n bs = some (l, rest)) :
    l.length = n ∧ bs.length = 2 * n + rest.length := by
  induction n generalizing bs l with
  | zero =>
    obtain ⟨rfl, rfl⟩ : _ ∧ _ := by simpa [parseEchoes] using h
    simp
  | succ n ih =>
    match bs, h with
    | st :: tg :: bs, h =>
      simp only [parseEchoes] at h
      split at h
      · next l' rest' hrest =>
        obtain ⟨rfl, rfl⟩ : _ ∧ _ := by simpa using h
        obtain ⟨hlen, hbs⟩ := ih hrest
        exact ⟨by rw [List.length_cons, hlen], by rw [List.length_cons, List.length_cons, hbs]; omega⟩
      · cases h

theorem parseExtras_encode {x : Extras} (h : x.WellFormed) (rest : List Byte) :
    parseExtras (encodeExtras x ++ rest) = some (x, rest) := by
  obtain ⟨hholder, hwearer, hremaining, hlen, hnumbers, hsorted⟩ := h
  rw [List.length_map] at hlen
  have hbytes : ∀ e ∈ x.echoes, e.station < 256 := fun e he =>
    Nat.lt_of_le_of_lt (hnumbers _ (List.mem_map_of_mem he)).2 (by decide)
  have hok := (stationListOk_iff _).2 ⟨hnumbers, hsorted⟩
  simp only [encodeExtras_eq, List.cons_append, List.nil_append, parseExtras,
    toNat_byte8 (show x.holder < 256 by omega), toNat_byte8 (show x.holderWearer < 256 by omega),
    be16_bytes (show x.remaining < 65536 by omega),
    toNat_byte8 (show x.echoes.length < 256 by omega), parseEchoes_encode hbytes]
  rw [if_pos ⟨hholder, hwearer, hremaining, hlen⟩, if_pos hok]

theorem parseExtras_sound {bs : List Byte} {x : Extras} {rest : List Byte}
    (h : parseExtras bs = some (x, rest)) :
    x.WellFormed ∧ bs.length = 5 + 2 * x.echoes.length + rest.length := by
  unfold parseExtras at h
  split at h
  · split_ifs at h with hchecks
    split at h
    · next l' rest' hrest =>
      split_ifs at h with hok
      obtain ⟨rfl, rfl⟩ : _ ∧ _ := by simpa using h
      obtain ⟨hlen, hbs⟩ := parseEchoes_sound hrest
      obtain ⟨hholder, hwearer, hremaining, hcount⟩ := hchecks
      refine ⟨⟨hholder, hwearer, hremaining, ?_, (stationListOk_iff _).1 hok⟩, ?_⟩
      · exact (List.length_map _).trans_le (hlen.trans_le hcount)
      · simp only [List.length_cons]
        omega
    · cases h
  · cases h

/-! ## Sections of a TALK (R3, R16, R18) -/

theorem parseSamples_encode (l : List Sample) (rest : List Byte) :
    parseSamples l.length (l.flatMap (fun x => bytes16 x.toNat) ++ rest) = some (l, rest) := by
  induction l with
  | nil => rfl
  | cons x l ih =>
    simp only [List.length_cons, List.flatMap_cons, bytes16_toNat x, List.cons_append,
      List.nil_append, parseSamples, ih, ofNat_be16_extract]

theorem parseSamples_sound {n : Nat} {bs : List Byte} {l : List Sample} {rest : List Byte}
    (h : parseSamples n bs = some (l, rest)) : bs.length = 2 * n + rest.length := by
  induction n generalizing bs l with
  | zero =>
    obtain ⟨-, rfl⟩ : _ ∧ _ := by simpa [parseSamples] using h
    simp
  | succ n ih =>
    match bs, h with
    | hi :: lo :: bs, h =>
      simp only [parseSamples] at h
      split at h
      · next l' rest' hrest =>
        obtain ⟨-, rfl⟩ : _ ∧ _ := by simpa using h
        rw [List.length_cons, List.length_cons, ih hrest]
        omega
      · cases h

theorem parseAirBlock_encode {b : AirBlock} (h : b.level ≤ 32768) (rest : List Byte) :
    parseAirBlock (encodeAirBlock b ++ rest) = some (b, rest) := by
  have hstart := getLsbD_byte8_bitsToNat [b.isStart, b.isEnd] (show 0 < 8 by decide)
  have hend := getLsbD_byte8_bitsToNat [b.isStart, b.isEnd] (show 1 < 8 by decide)
  have hsamples := parseSamples_encode b.block.samples rest
  rw [b.block.len] at hsamples
  simp only [encodeAirBlock_eq, List.cons_append, List.nil_append, parseAirBlock, hstart, hend,
    be16_bytes (show b.level < 65536 by omega), if_pos h, hsamples, dif_pos b.block.len]
  rfl

theorem parseAirBlock_sound {bs : List Byte} {b : AirBlock} {rest : List Byte}
    (h : parseAirBlock bs = some (b, rest)) :
    b.level ≤ 32768 ∧ bs.length = 67 + rest.length := by
  unfold parseAirBlock at h
  split at h
  · split_ifs at h with hlevel
    split at h
    · next xs rest' hrest =>
      split_ifs at h with hlen
      obtain ⟨rfl, rfl⟩ : _ ∧ _ := by simpa using h
      have hbs := parseSamples_sound hrest
      exact ⟨hlevel, by simp only [List.length_cons]; omega⟩
    · cases h
  · cases h

theorem parseAirBlocks_encode {l : List AirBlock} (h : ∀ b ∈ l, b.level ≤ 32768)
    (rest : List Byte) :
    parseAirBlocks l.length (l.flatMap encodeAirBlock ++ rest) = some (l, rest) := by
  induction l with
  | nil => rfl
  | cons b l ih =>
    obtain ⟨hb, hl⟩ := List.forall_mem_cons.1 h
    simp only [List.length_cons, List.flatMap_cons, List.append_assoc, parseAirBlocks,
      parseAirBlock_encode hb, ih hl]

theorem parseAirBlocks_sound {n : Nat} {bs : List Byte} {l : List AirBlock} {rest : List Byte}
    (h : parseAirBlocks n bs = some (l, rest)) :
    l.length = n ∧ (∀ b ∈ l, b.level ≤ 32768) ∧ bs.length = 67 * n + rest.length := by
  induction n generalizing bs l with
  | zero =>
    obtain ⟨rfl, rfl⟩ : _ ∧ _ := by simpa [parseAirBlocks] using h
    simp
  | succ n ih =>
    simp only [parseAirBlocks] at h
    split at h
    · next b rest' hblock =>
      split at h
      · next l' rest'' hrest =>
        obtain ⟨rfl, rfl⟩ : _ ∧ _ := by simpa using h
        obtain ⟨hlevel, hbs⟩ := parseAirBlock_sound hblock
        obtain ⟨hlen, hlevels, hbs'⟩ := ih hrest
        exact ⟨by rw [List.length_cons, hlen], List.forall_mem_cons.2 ⟨hlevel, hlevels⟩, by omega⟩
      · cases h
    · cases h

theorem parseSection_encode {limit : Nat} (hlimit : limit ≤ 4) {t : TalkSection}
    (h : t.WellFormed limit) (rest : List Byte) :
    parseSection limit (encodeSection t ++ rest) = some (t, rest) := by
  obtain ⟨hlen, hlevels⟩ := h
  simp only [encodeSection_eq, List.cons_append, List.nil_append, parseSection,
    toNat_byte8 (show t.blocks.length < 256 by omega), if_pos hlen, parseAirBlocks_encode hlevels,
    ofNat_be16_extract]

theorem parseSection_sound {limit : Nat} {bs : List Byte} {t : TalkSection} {rest : List Byte}
    (h : parseSection limit bs = some (t, rest)) :
    t.WellFormed limit ∧ bs.length = 3 + 67 * t.blocks.length + rest.length := by
  unfold parseSection at h
  split at h
  · split_ifs at h with hcount
    split at h
    · next l rest' hrest =>
      obtain ⟨rfl, rfl⟩ : _ ∧ _ := by simpa using h
      obtain ⟨hlen, hlevels, hbs⟩ := parseAirBlocks_sound hrest
      refine ⟨⟨hlen.trans_le hcount, hlevels⟩, ?_⟩
      simp only [List.length_cons]
      omega
    · cases h
  · cases h

/-! ## The body and the whole frame (R3, R14) -/

/-- How long a body is by its counts (section 1.5). -/
def Body.byteCount : Body → Nat
  | .talk v c => (3 + 67 * v.blocks.length) + (3 + 67 * c.blocks.length)
  | .presence l => 1 + l.length
  | .hail _ l => 5 + l.length
  | .leave => 0

/-- How long the extras of a frame are, when it has them. -/
def extrasByteCount (x : Option Extras) : Nat := x.elim 0 (fun x => 5 + 2 * x.echoes.length)

theorem Frame.length_eq (f : Frame) :
    f.length = 9 + extrasByteCount f.extras + f.body.byteCount := by
  unfold Frame.length extrasByteCount
  cases f.extras <;> cases f.body <;> rfl

section
variable {h : Header} {bs rest : List Byte}

theorem callLimit_le (active : Bool) : (if active = true then 4 else 0) ≤ 4 := by
  cases active <;> decide

theorem parseBody_encode {b : Body} (hwf : b.WellFormed h.kind h.sender.flags.active)
    (rest : List Byte) : ∀ bs, bs = encodeBody b ++ rest → (b = .leave → rest = []) →
      parseBody h bs = some (b, rest) := by
  rintro _ rfl -
  cases b with
  | talk v c =>
    obtain ⟨hkind, hvoice, hcall⟩ := hwf
    simp only [parseBody, hkind, encodeBody, List.append_assoc, sectionLimit,
      parseSection_encode (Nat.le_refl 4) hvoice, parseSection_encode (callLimit_le _) hcall]
  | presence l =>
    obtain ⟨hkind, hlist⟩ := hwf
    simp only [parseBody, hkind, encodeBody, parseStationList_encode hlist]
  | hail code l =>
    obtain ⟨hkind, hlist⟩ := hwf
    simp only [parseBody, hkind, encodeBody, bytes32_toNat, List.cons_append, List.nil_append,
      parseStationList_encode hlist, ofNat_be32_extract]
  | leave =>
    have hkind : h.kind = .leave := hwf
    simp only [parseBody, hkind, encodeBody, List.nil_append]

theorem parseBody_sound {b : Body} (hparse : parseBody h bs = some (b, rest)) :
    b.WellFormed h.kind h.sender.flags.active ∧ bs.length = b.byteCount + rest.length := by
  unfold parseBody at hparse
  split at hparse
  · next hkind =>
    split at hparse
    · next v bs' hvoice =>
      split at hparse
      · next c rest' hcall =>
        obtain ⟨rfl, rfl⟩ : _ ∧ _ := by simpa using hparse
        obtain ⟨hv, hvlen⟩ := parseSection_sound hvoice
        obtain ⟨hc, hclen⟩ := parseSection_sound hcall
        exact ⟨⟨hkind, hv, hc⟩, by simp only [Body.byteCount]; omega⟩
      · cases hparse
    · cases hparse
  · next hkind =>
    split at hparse
    · next l rest' hlist =>
      obtain ⟨rfl, rfl⟩ : _ ∧ _ := by simpa using hparse
      obtain ⟨hl, hlen⟩ := parseStationList_sound hlist
      exact ⟨⟨hkind, hl⟩, hlen⟩
    · cases hparse
  · next hkind =>
    split at hparse
    · split at hparse
      · next l rest' hlist =>
        obtain ⟨rfl, rfl⟩ : _ ∧ _ := by simpa using hparse
        obtain ⟨hl, hlen⟩ := parseStationList_sound hlist
        exact ⟨⟨hkind, hl⟩, by simp only [List.length_cons, Body.byteCount]; omega⟩
      · cases hparse
    · cases hparse
  · next hkind =>
    obtain ⟨rfl, rfl⟩ : _ ∧ _ := by simpa using hparse
    exact ⟨hkind, by simp [Body.byteCount]⟩

theorem parseOptExtras_encode {x : Option Extras} (hsome : x.isSome = h.hasExtras)
    (hwf : ∀ y, x = some y → y.WellFormed) (rest : List Byte) :
    parseOptExtras h (x.elim [] encodeExtras ++ rest) = some (x, rest) := by
  cases x with
  | none => simp [parseOptExtras, ← hsome]
  | some y =>
    simp only [parseOptExtras, ← hsome, Option.isSome_some, if_true, Option.elim_some,
      parseExtras_encode (hwf y rfl)]

theorem parseOptExtras_sound {x : Option Extras} (hparse : parseOptExtras h bs = some (x, rest)) :
    x.isSome = h.hasExtras ∧ (∀ y, x = some y → y.WellFormed) ∧
      bs.length = extrasByteCount x + rest.length := by
  unfold parseOptExtras at hparse
  split_ifs at hparse with hhas
  · split at hparse
    · next y rest' hextras =>
      obtain ⟨rfl, rfl⟩ : _ ∧ _ := by simpa using hparse
      obtain ⟨hy, hlen⟩ := parseExtras_sound hextras
      refine ⟨hhas.symm, fun z hz => ?_, hlen⟩
      obtain rfl := Option.some.inj hz
      exact hy
    · cases hparse
  · obtain ⟨rfl, rfl⟩ : _ ∧ _ := by simpa using hparse
    refine ⟨by simpa using hhas, fun y hy => ?_, by simp [extrasByteCount]⟩
    cases hy

end

theorem parseFrame_encode {f : Frame} (h : f.WellFormed) :
    parseFrame (encodeFrame f) = some f := by
  obtain ⟨hheader, hsome, hextras, hbody⟩ := h
  have hempty : encodeBody f.body = encodeBody f.body ++ [] := (List.append_nil _).symm
  simp only [encodeFrame_eq, List.append_assoc, parseFrame, parseHeader_encode hheader,
    parseOptExtras_encode hsome hextras,
    parseBody_encode hbody [] _ hempty (fun _ => rfl)]

theorem parseFrame_sound {bytes : List Byte} {f : Frame} (h : parseFrame bytes = some f) :
    f.WellFormed ∧ bytes.length = f.length := by
  unfold parseFrame at h
  split at h
  · cases h
  · next hd bs hheader =>
    split at h
    · cases h
    · next x bs' hextras =>
      split at h
      · next b hbody =>
        obtain rfl := Option.some.inj h
        obtain ⟨hhd, hlen⟩ := parseHeader_sound hheader
        obtain ⟨hsome, hx, hlen'⟩ := parseOptExtras_sound hextras
        obtain ⟨hb, hlen''⟩ := parseBody_sound hbody
        refine ⟨⟨hhd, hsome, hx, hb⟩, ?_⟩
        have hempty : ([] : List Byte).length = 0 := rfl
        rw [Frame.length_eq, hlen, hlen', hlen'', hempty]
        exact (Nat.add_assoc 9 _ _).symm
      · cases h

theorem length_encodeBody (b : Body) : (encodeBody b).length = b.byteCount := by
  cases b with
  | talk v c => rw [encodeBody, List.length_append, length_encodeSection, length_encodeSection]; rfl
  | presence l => simp [encodeBody, encodeStationList, Body.byteCount, Nat.add_comm]
  | hail code l => rw [encodeHail_eq, List.length_append, List.length_map]; rfl
  | leave => rfl

theorem length_encodeFrame (f : Frame) : (encodeFrame f).length = f.length := by
  rw [encodeFrame_eq, List.length_append, List.length_append, length_encodeBody, Frame.length_eq]
  cases f.extras with
  | none => rfl
  | some x => rw [Option.elim_some, length_encodeExtras]; rfl

/-- The longest frame is a TALK with extras of nine echoes and two full sections. -/
theorem Frame.WellFormed.length_le {f : Frame} (h : f.WellFormed) : f.length ≤ 574 := by
  obtain ⟨-, -, hextras, hbody⟩ := h
  have hx : extrasByteCount f.extras ≤ 23 := by
    cases hf : f.extras with
    | none => exact Nat.zero_le _
    | some x =>
      obtain ⟨-, -, -, hlen, -⟩ := hextras x hf
      rw [List.length_map] at hlen
      simp only [extrasByteCount, Option.elim_some]
      omega
  have hb : f.body.byteCount ≤ 542 := by
    cases hf : f.body with
    | talk v c =>
      rw [hf] at hbody
      obtain ⟨-, ⟨hv, -⟩, hc, -⟩ := hbody
      have := hc.trans (callLimit_le _)
      simp only [Body.byteCount]
      omega
    | presence l =>
      rw [hf] at hbody
      obtain ⟨-, hlen, -⟩ := hbody
      simp only [Body.byteCount]
      omega
    | hail code l =>
      rw [hf] at hbody
      obtain ⟨-, hlen, -⟩ := hbody
      simp only [Body.byteCount]
      omega
    | leave => exact Nat.zero_le _
  rw [Frame.length_eq]
  omega

/-- Settles O37: what is written is read back, and what is read is well-formed. -/
theorem framesRoundTripBothWays : Obligations.FramesRoundTripBothWays := by
  refine ⟨fun f h => ⟨parseFrame_encode h, length_encodeFrame f, h.length_le⟩, fun bytes f h => ?_⟩
  obtain ⟨hwf, hlen⟩ := parseFrame_sound h
  have hmin : 9 ≤ f.length := by rw [Frame.length_eq]; omega
  exact ⟨hwf, hlen, hlen ▸ hmin, hlen ▸ hwf.length_le, parseFrame_encode hwf⟩

end Sys2Proof.Machine
end

section
/-! PROOFS. The frames that a station forms (sections 4.6 and 8.4): the bridge extras, and that every
frame formed is well-formed. -/

namespace Sys2Proof.Machine

/-! ## The bridge extras (R155, R163) -/

theorem State.mem_echoList (s : State) (e : Echo) :
    e ∈ s.echoList ↔ ∃ p ∈ s.ru.peers, p.state = .admitted ∧ p.station = e.station ∧
      p.lastSeen = some e.toggles := by
  simp only [State.echoList, List.mem_filterMap]
  refine exists_congr fun p => and_congr_right fun _ => ?_
  by_cases ha : p.state = .admitted
  · rw [if_pos ha, Option.map_eq_some_iff]
    constructor
    · rintro ⟨t, ht, rfl⟩
      exact ⟨ha, rfl, ht⟩
    · rintro ⟨-, hstation, ht⟩
      exact ⟨_, ht, by rw [hstation]⟩
  · simp [ha]

/-- What is picked from a list, one for one, keeps the order of what it was picked from. -/
theorem sublist_map_filterMap {α β γ : Type} {f : α → Option β} {g : β → γ} {h : α → γ}
    (hf : ∀ a b, f a = some b → g b = h a) (l : List α) :
    ((l.filterMap f).map g).Sublist (l.map h) := by
  induction l with
  | nil => exact .slnil
  | cons a l ih =>
    cases hfa : f a with
    | none => rw [List.filterMap_cons_none hfa, List.map_cons]; exact ih.cons _
    | some b =>
      rw [List.filterMap_cons_some hfa, List.map_cons, List.map_cons, hf a b hfa]
      exact ih.cons_cons _

theorem State.echoList_sublist (s : State) :
    (s.echoList.map (·.station)).Sublist (s.ru.peers.map (·.station)) := by
  refine sublist_map_filterMap (fun p e hpe => ?_) _
  split at hpe
  · obtain ⟨t, -, rfl⟩ := Option.map_eq_some_iff.1 hpe
    rfl
  · cases hpe

/-- Any part of the table's stations is a list that a frame can carry (R3, R19). -/
theorem State.RosterOk.stationsWellFormed {s : State} (h : s.RosterOk) {l : List Nat}
    (hsub : l.Sublist (s.ru.peers.map (·.station))) : stationsWellFormed l := by
  obtain ⟨hlen, hsorted, hpeers, -⟩ := h
  refine ⟨hsub.length_le.trans (by rwa [List.length_map]), fun n hn => ?_,
    (List.pairwise_map.2 hsorted).sublist hsub⟩
  obtain ⟨p, hp, rfl⟩ := List.mem_map.1 (hsub.subset hn)
  obtain ⟨hnumber, -⟩ := hpeers p hp
  exact hnumber

theorem State.floorRemaining_of_none {s : State} (h : s.cq.holder = none) :
    s.floorRemaining = 0 := by
  simp [State.floorRemaining, h]

theorem State.floorRemaining_of_some {s : State} {n e : Nat} (h : s.cq.holder = some n)
    (hgrant : s.cq.grant = some e) : s.floorRemaining = max 1 ((e - s.now + 9999) / 10000) := by
  simp [State.floorRemaining, h, hgrant, millis]

/-- Settles O39: the holder with its wearer, the time by whole tenths of a second, the echoes in the
table's order. -/
theorem extrasShowFloorAndEchoes : Obligations.ExtrasShowFloorAndEchoes := by
  refine fun s => ⟨fun hnone => ?_, fun n hholder => ?_, s.mem_echoList, fun hroster => ?_⟩
  · exact ⟨by simp [State.extras, hnone], by simp [State.extras, hnone],
      State.floorRemaining_of_none hnone⟩
  · have hwearer : s.extras.holderWearer = (s.wearerOf n).getD 0 := by
      simp [State.extras, hholder]
    refine ⟨by simp [State.extras, hholder], fun hown => ?_, fun p hne hp => ?_, fun e hgrant => ?_⟩
    · rw [hwearer, hown, State.wearerOf_own, Option.getD_some]
    · rw [hwearer, State.wearerOf_peer hne hp, Option.getD_some]
    · have hremaining : s.extras.remaining = max 1 ((e - s.now + 9999) / 10000) :=
        State.floorRemaining_of_some hholder hgrant
      rw [hremaining]
      omega
  · obtain ⟨-, -, hsorted⟩ := hroster.stationsWellFormed s.echoList_sublist
    exact List.pairwise_map.1 hsorted

/-! ## The frame formed (R14, R15, R73, R74) -/

theorem State.micScore_le (s : State) : s.micScore ≤ 255 := Nat.min_le_left _ _

theorem State.mem_of_mem_run {s : State} {t : Tag} {e : SendEntry} (h : e ∈ s.run t) :
    e ∈ s.sa.queue ∧ e.tag = t := by
  obtain ⟨rest, hsplit, -⟩ := takeRun_maximal sectionLimit (s.tagged t)
  have hmem : e ∈ s.tagged t := by
    rw [hsplit]
    exact List.mem_append_left _ h
  simpa [State.tagged] using hmem

/-- A TALK section formed: at most 4 blocks, and none of a tag that the queue does not hold. -/
theorem State.talkSection_wellFormed {s : State} (h : s.SendQueueOk) (t : Tag) {limit : Nat}
    (hlimit : s.run t = [] ∨ 4 ≤ limit) : (s.talkSection (s.run t)).WellFormed limit := by
  obtain ⟨-, hentries, -⟩ := h
  refine ⟨?_, fun b hb => ?_⟩
  · have hlen : (s.talkSection (s.run t)).blocks.length = (s.run t).length := List.length_map _
    rcases hlimit with hempty | hfour
    · rw [hlen, hempty]
      exact Nat.zero_le _
    · exact hlen.trans_le ((length_takeRun_le _ _).trans hfour)
  · obtain ⟨e, he, rfl⟩ := List.mem_map.1 hb
    exact (hentries e (State.mem_of_mem_run he).1).2

/-- Outside ACTIVE the queue holds no CALL entry, so the call section is empty (R65). -/
theorem State.run_call_eq_nil {s : State} (h : s.SendQueueOk) (hstate : s.bu.state ≠ .active) :
    s.run .call = [] := by
  obtain ⟨-, -, -, hvoice, -⟩ := h
  refine List.eq_nil_iff_forall_not_mem.2 fun e he => ?_
  obtain ⟨hmem, htag⟩ := State.mem_of_mem_run he
  rw [hvoice hstate e hmem] at htag
  cases htag

/-- A station on the floor, and its wearer, are ones a frame can carry. -/
theorem State.floor_numbers {s : State} (hsettings : s.cfg.InRange) (hroster : s.RosterOk)
    (hfloor : s.FloorOk) {n : Nat} (hn : n ∈ s.onFloor) :
    n ≤ 254 ∧ (s.wearerOf n).getD 0 ≤ 15 := by
  obtain ⟨⟨-, hown⟩, ⟨-, hwearer⟩, -⟩ := hsettings
  obtain ⟨-, -, -, -, -, hstations⟩ := hfloor
  obtain ⟨-, hsorted, hpeers, -⟩ := hroster
  by_cases hself : n = s.own
  · subst hself
    rw [State.wearerOf_own]
    exact ⟨hown, hwearer⟩
  · obtain ⟨p, hp, rfl, -⟩ := (hstations n hn).resolve_left hself
    obtain ⟨⟨-, hnumber⟩, -, ⟨-, hw⟩, -⟩ := hpeers p hp
    rw [State.wearerOf_peer hself (findPeer_of_mem hsorted hp)]
    exact ⟨hnumber, hw⟩

/-- The time remaining of a grant of at most *G* seconds fits its field (R163, R184). -/
theorem State.floorRemaining_le {s : State} (hsettings : s.cfg.InRange) (hfloor : s.FloorOk) :
    s.floorRemaining ≤ 300 := by
  obtain ⟨-, -, -, -, -, -, ⟨-, hgrantTime⟩, -⟩ := hsettings
  obtain ⟨-, -, -, -, hgrant, -⟩ := hfloor
  cases hholder : s.cq.holder with
  | none => rw [State.floorRemaining_of_none hholder]; exact Nat.zero_le _
  | some n =>
    cases he : s.cq.grant with
    | none => simp [State.floorRemaining, hholder, he]
    | some e =>
      rw [he] at hgrant
      have hbound : e ≤ s.now + s.cfg.grantTime * 100000 := of_decide_eq_true hgrant
      rw [State.floorRemaining_of_some hholder he]
      omega

theorem State.extras_wellFormed {s : State} (hsettings : s.cfg.InRange) (hroster : s.RosterOk)
    (hfloor : s.FloorOk) : s.extras.WellFormed := by
  have hholder : s.extras.holder ≤ 254 ∧ s.extras.holderWearer ≤ 15 := by
    cases h : s.cq.holder with
    | none => simp [State.extras, h]
    | some n =>
      have hmem : n ∈ s.onFloor := by simp [State.onFloor, h]
      simpa [State.extras, h] using State.floor_numbers hsettings hroster hfloor hmem
  exact ⟨hholder.1, hholder.2, State.floorRemaining_le hsettings hfloor,
    hroster.stationsWellFormed s.echoList_sublist⟩

theorem State.body_wellFormed {s : State} (hqueue : s.SendQueueOk) (hroster : s.RosterOk)
    (k : FrameKind) : (s.body k).WellFormed k (decide (s.bu.state = .active)) := by
  have hlist (f : Peer → Bool) : stationsWellFormed ((s.ru.peers.filter f).map (·.station)) :=
    hroster.stationsWellFormed (List.filter_sublist.map _)
  cases k with
  | talk =>
    refine ⟨rfl, State.talkSection_wellFormed hqueue .voice (.inr le_rfl),
      State.talkSection_wellFormed hqueue .call ?_⟩
    by_cases hactive : s.bu.state = .active
    · simp [hactive]
    · exact .inl (State.run_call_eq_nil hqueue hactive)
  | presence => exact ⟨rfl, hlist _⟩
  | hail => exact ⟨rfl, hlist _⟩
  | leave => rfl

/-- A frame formed in RUNNING from a state that keeps its agreements is well-formed. -/
theorem State.frame_wellFormed {s : State} (hsettings : s.cfg.InRange) (hroster : s.RosterOk)
    (hqueue : s.SendQueueOk) (hfloor : s.FloorOk) (k : FrameKind) : (s.frame k).WellFormed := by
  obtain ⟨hstation, hwearer, -⟩ := id hsettings
  refine ⟨⟨hstation, hwearer, s.micScore_le, ?_⟩, ?_, fun x hx => ?_,
    State.body_wellFormed hqueue hroster k⟩
  · rintro ⟨hclaim, hactive⟩
    have hc : s.bu.state = .claiming := of_decide_eq_true hclaim
    have ha : s.bu.state = .active := of_decide_eq_true hactive
    exact absurd (hc.symm.trans ha) (by decide)
  · change (if (s.header k).hasExtras then some s.extras else none).isSome = (s.header k).hasExtras
    cases (s.header k).hasExtras <;> rfl
  · rw [State.frame_extras] at hx
    split_ifs at hx
    obtain rfl := Option.some.inj hx
    exact State.extras_wellFormed hsettings hroster hfloor

/-- Settles O38: an isolated station is STANDBY, so it never shows LEAD. -/
theorem formedFramesAreWellFormed : Obligations.FormedFramesAreWellFormed := by
  intro s k hinv hr
  have hwf := State.frame_wellFormed (hinv.settings hr) hinv.roster hinv.sendQueue hinv.floor k
  refine ⟨hwf, parseFrame_encode hwf, rfl, rfl, rfl, ?_⟩
  rintro ⟨hlead, hisolated⟩
  have hstandby := (hinv.role.1 hisolated).1
  have hrole : s.wl.role = .lead := of_decide_eq_true hlead
  exact absurd (hrole.symm.trans hstandby) (by decide)

end Sys2Proof.Machine
end

section
/-! PROOFS. The downlink's slips (section 5.5) and one mix of one bus (chapter 6). -/

namespace Sys2Proof.Machine

/-! ## When a pending slip is applied (R94) -/

section
variable {d : Downlink} {depth quiet : Nat}

/-- A quiet entry stands at *next*, or the wait ends. -/
theorem Downlink.slipNow_iff (hok : d.queue.Ok) (hwait : 1 ≤ d.slip.wait) :
    d.slipNow quiet = true ↔ d.slip.wait = 1 ∨
      ∃ e ∈ d.queue.entries, e.seq = d.queue.next ∧ e.level < quiet := by
  have hends : d.slip.wait - 1 = 0 ↔ d.slip.wait = 1 := by omega
  have hquiet : (match d.queue.atNext with
      | some e => decide (e.level < quiet)
      | none => false) = true ↔
      ∃ e ∈ d.queue.entries, e.seq = d.queue.next ∧ e.level < quiet := by
    constructor
    · intro h
      cases hnext : d.queue.atNext with
      | none => rw [hnext] at h; cases h
      | some e =>
        rw [hnext] at h
        obtain ⟨he, hseq⟩ := RxQueue.atNext_some hnext
        exact ⟨e, he, hseq, of_decide_eq_true h⟩
    · rintro ⟨e, he, hseq, hlevel⟩
      rw [hok.atNext_of_mem he hseq]
      exact decide_eq_true hlevel
  have hor : d.slipNow quiet = true ↔ (decide (d.slip.wait - 1 = 0) || (match d.queue.atNext with
      | some e => decide (e.level < quiet)
      | none => false)) = true := Iff.rfl
  rw [hor, Bool.or_eq_true, decide_eq_true_eq, hends, hquiet]

theorem Downlink.step_of_not_playing (h : d.queue.mode ≠ .playing) :
    d.step depth quiet =
      ({ d with queue := (d.queue.playStep depth).1 }, (d.queue.playStep depth).2) := by
  unfold Downlink.step
  split
  · next hmode _ => exact absurd hmode h
  · next hmode _ => exact absurd hmode h
  · rfl

section
variable (hplay : d.queue.mode = .playing)
include hplay

theorem Downlink.step_of_no_slip (h : d.slip.pending = none) :
    d.step depth quiet =
      (if (d.queue.playStep depth).1.mode = .playing then
        Downlink.measure depth { d with queue := (d.queue.playStep depth).1 }
       else Downlink.settleSlip { d with queue := (d.queue.playStep depth).1 },
       (d.queue.playStep depth).2) := by
  simp only [Downlink.step, hplay, h]

theorem Downlink.step_of_waiting (h : d.slip.pending ≠ none) (hnow : ¬d.slipNow quiet = true) :
    d.step depth quiet =
      (Downlink.settleSlip { d with queue := (d.queue.playStep depth).1,
                                    slip := { d.slip with wait := d.slip.wait - 1 } },
       (d.queue.playStep depth).2) := by
  obtain ⟨kind, hkind⟩ := Option.ne_none_iff_exists'.1 h
  simp only [Downlink.step, hplay, hkind, if_neg hnow]

theorem Downlink.step_of_drop (h : d.slip.pending = some .drop) (hnow : d.slipNow quiet = true) :
    d.step depth quiet = d.dropStep depth := by
  simp only [Downlink.step, hplay, h, if_pos hnow]

theorem Downlink.step_of_repeat (h : d.slip.pending = some .repeat)
    (hnow : d.slipNow quiet = true) : d.step depth quiet = d.repeatStep := by
  simp only [Downlink.step, hplay, h, if_pos hnow]

end

theorem Downlink.settleSlip_of_not_playing (h : d.queue.mode ≠ .playing) :
    d.settleSlip = { d with slip := SlipState.cleared } := if_neg h

theorem Downlink.settleSlip_of_playing (h : d.queue.mode = .playing) : d.settleSlip = d := if_pos h

/-- A run that has not reached 250 is measured as one of at most 250 (R93). -/
theorem Downlink.measure_eq (hhigh : d.slip.highRun < 250) (hlow : d.slip.lowRun < 250)
    {high low : Nat}
    (hh : high = if depth + 2 < d.queue.entries.length then d.slip.highRun + 1 else 0)
    (hl : low = if d.queue.entries.length + 1 < depth then d.slip.lowRun + 1 else 0) :
    d.measure depth =
      { d with slip := {
          highRun := high, lowRun := low
          pending := if high = 250 then some .drop else if low = 250 then some .repeat else none
          wait := if high = 250 ∨ low = 250 then 64 else 0 } } := by
  have hrun : slipRun ≤ high ↔ high = 250 := by
    rw [hh, slipRun]
    split <;> omega
  have lrun : slipRun ≤ low ↔ low = 250 := by
    rw [hl, slipRun]
    split <;> omega
  have : d.measure depth = { d with slip := {
      highRun := high, lowRun := low
      pending := if slipRun ≤ high then some .drop else if slipRun ≤ low then some .repeat else none
      wait := if Option.isSome (if slipRun ≤ high then some Slip.drop
        else if slipRun ≤ low then some Slip.repeat else none) then slipWait else 0 } } := by
    rw [hh, hl]
    rfl
  simp only [this, hrun, lrun, slipWait]
  by_cases h : high = 250
  · simp [h]
  · by_cases l : low = 250 <;> simp [h, l]

end

/-- Settles O42, step by step of section 5.5: R86 outside PLAYING, R93 with no slip pending, R94 to
R97 with one. -/
theorem downlinkSlips : Obligations.DownlinkSlips := by
  intro depth quiet d hok ⟨_, hhigh, hlow, hwait, hfree, hpend, hslips⟩ p r none' due
  have hdue (h : d.slip.pending ≠ none) : d.slipNow quiet = true ↔ due :=
    Downlink.slipNow_iff hok (hpend h)
  refine ⟨Downlink.step_of_not_playing, fun hplay => ⟨fun hnone hleft => ?_, fun hnone hstay => ?_,
    fun hsome hnot => ?_, fun hdrop hnow => ⟨fun hleft => ?_, fun hstay => ?_⟩,
    fun hrepeat hnow => ⟨fun e he hseq => ?_, fun hnone => ?_⟩⟩⟩
  · exact (Downlink.step_of_no_slip hplay hnone).trans (by
      rw [if_neg hleft, Downlink.settleSlip_of_not_playing hleft]
      rfl)
  · obtain ⟨hh, hl, _⟩ := hfree hnone
    exact (Downlink.step_of_no_slip hplay hnone).trans (by
      rw [if_pos hstay]
      exact congrArg (·, p.2) (Downlink.measure_eq (d := { d with queue := p.1 }) hh hl rfl rfl))
  · refine (Downlink.step_of_waiting hplay hsome (mt (hdue hsome).1 hnot)).trans ?_
    by_cases hmode : p.1.mode = .playing
    · rw [Downlink.settleSlip_of_playing hmode, if_pos hmode]
    · rw [Downlink.settleSlip_of_not_playing hmode, if_neg hmode]
      rfl
  · have hnow := (hdue (by simp [hdrop])).2 hnow
    exact (Downlink.step_of_drop hplay hdrop hnow).trans (if_neg hleft)
  · have hnow := (hdue (by simp [hdrop])).2 hnow
    exact (Downlink.step_of_drop hplay hdrop hnow).trans (if_pos hstay)
  · have hnow := (hdue (by simp [hrepeat])).2 hnow
    refine (Downlink.step_of_repeat hplay hrepeat hnow).trans ?_
    rw [Downlink.repeatStep, hok.atNext_of_mem he hseq]
    rfl
  · have hstep : r = d.repeatStep :=
      Downlink.step_of_repeat hplay hrepeat ((hdue (by simp [hrepeat])).2 hnow)
    rw [hstep, Downlink.repeatStep, RxQueue.atNext_none.2 hnone]
    refine ⟨rfl, fun b hb => ?_, fun hb => ?_⟩
    · rw [hb]
      rfl
    · rw [hb]
      rfl

end Sys2Proof.Machine
end

section
/-! PROOFS. One mix of one bus (chapter 6). -/

namespace Sys2Proof.Machine

/-- A largest value, folded from `m`, is reached and not exceeded. -/
theorem foldl_max_spec {α : Type} (f : α → Nat) (l : List α) (m : Nat) :
    m ≤ l.foldl (fun m a => max m (f a)) m ∧
    (∀ a ∈ l, f a ≤ l.foldl (fun m a => max m (f a)) m) ∧
    (l.foldl (fun m a => max m (f a)) m = m ∨
      ∃ a ∈ l, f a = l.foldl (fun m a => max m (f a)) m) := by
  induction l generalizing m with
  | nil => simp
  | cons b l ih =>
    obtain ⟨hm, hle, hat⟩ := ih (max m (f b))
    refine ⟨by rw [List.foldl_cons]; omega, fun a ha => ?_, ?_⟩
    · rcases List.mem_cons.1 ha with rfl | ha
      · rw [List.foldl_cons]
        omega
      · exact hle a ha
    · rw [List.foldl_cons]
      rcases hat with hat | ⟨a, ha, h⟩
      · by_cases hb : f b ≤ m
        · exact .inl (by omega)
        · exact .inr ⟨b, List.mem_cons_self, by omega⟩
      · exact .inr ⟨a, List.mem_cons_of_mem b ha, h⟩

/-- The peak is the largest magnitude of the 32 sums (R120). -/
theorem mixPeak_mixAccs (d : Nat) (srcs : List Source) :
    (∀ i, i < 32 → (mixAcc d srcs i).natAbs ≤ mixPeak (mixAccs d srcs)) ∧
    ∃ i, i < 32 ∧ (mixAcc d srcs i).natAbs = mixPeak (mixAccs d srcs) := by
  obtain ⟨_, hle, hat⟩ := foldl_max_spec Int.natAbs (mixAccs d srcs) 0
  have hmem (i : Nat) (hi : i < 32) : mixAcc d srcs i ∈ mixAccs d srcs :=
    List.mem_map_of_mem (List.mem_range.2 hi)
  refine ⟨fun i hi => hle _ (hmem i hi), ?_⟩
  rcases hat with hzero | ⟨a, ha, h⟩
  · refine ⟨0, by omega, ?_⟩
    have := hle _ (hmem 0 (by omega))
    rw [hzero] at this
    exact (Nat.le_zero.1 this).trans hzero.symm
  · obtain ⟨i, hi, rfl⟩ := List.mem_map.1 ha
    exact ⟨i, List.mem_range.1 hi, h⟩

/-- The limiter keeps every scaled sum within the full scale (R121). -/
theorem natAbs_mul_limiterGain_le {peak : Nat} (release gain : Nat) {acc : Int}
    (h : acc.natAbs ≤ peak) :
    (acc * (limiterGain release peak gain : Nat)).natAbs ≤ 32767 * 32768 := by
  rw [Int.natAbs_mul, Int.natAbs_natCast, limiterGain]
  split
  · next hpeak =>
    calc acc.natAbs * min _ (32767 * 32768 / peak)
        ≤ peak * (32767 * 32768 / peak) := Nat.mul_le_mul h (min_le_right _ _)
      _ ≤ 32767 * 32768 := Nat.mul_div_le _ _
  · next hpeak => exact Nat.mul_le_mul (by omega) (min_le_left _ _)

/-- A sum scaled within the full scale gives its rounded quotient, within R122's range. -/
theorem toInt_mixOutput {gain : Nat} {acc : Int} (h : (acc * gain).natAbs ≤ 32767 * 32768) :
    (mixOutput gain acc).toInt = (acc * gain + 16384) / 32768 ∧
    -32767 ≤ (mixOutput gain acc).toInt ∧ (mixOutput gain acc).toInt ≤ 32767 := by
  have hv : (mixOutput gain acc).toInt = (acc * gain + 16384) / 32768 := by
    rw [mixOutput, BitVec.toInt_ofInt]
    generalize acc * gain = x at h ⊢
    exact Int.bmod_eq_of_le (by omega) (by omega)
  rw [hv]
  generalize acc * gain = x at h ⊢
  omega

theorem Block.sample_ofFn (f : Nat → Sample) {i : Nat} (hi : i < 32) :
    (Block.ofFn f).sample i = f i := by
  simp [Block.ofFn, Block.sample, hi]

theorem mixAccs_getD (d : Nat) (srcs : List Source) {i : Nat} (hi : i < 32) :
    (mixAccs d srcs).getD i 0 = mixAcc d srcs i := by
  simp [mixAccs, hi]

/-- What one mix leaves and gives, each value from those the mix has set before it. -/
theorem Bus.mix_eq (cfg : Settings) (target : Nat) (srcs : List Source) (b : Bus) :
    (b.mix cfg target srcs).1.duck = duckRamp cfg.attack cfg.release target b.duck ∧
    (b.mix cfg target srcs).1.limiter = limiterGain cfg.limiterRelease
      (mixPeak (mixAccs (b.mix cfg target srcs).1.duck srcs)) b.limiter ∧
    (b.mix cfg target srcs).1.overloads =
      (if 32767 < mixPeak (mixAccs (b.mix cfg target srcs).1.duck srcs)
        then min 65535 (b.overloads + 1) else b.overloads) ∧
    ∀ i, i < 32 → (b.mix cfg target srcs).2.sample i =
      mixOutput (b.mix cfg target srcs).1.limiter
        (mixAcc (b.mix cfg target srcs).1.duck srcs i) := by
  simp only [Bus.mix, countUp, true_and]
  refine ⟨rfl, fun i hi => ?_⟩
  rw [Block.sample_ofFn _ hi, mixAccs_getD _ _ hi]

theorem limiterGain_eq (release peak gain : Nat) : limiterGain release peak gain =
    if 32767 < peak then min (min 32768 (gain + release)) (1073709056 / peak)
    else min 32768 (gain + release) := by
  simp [limiterGain]

/-- Settles O43. -/
theorem oneMixOfOneBus : Obligations.OneMixOfOneBus := by
  intro cfg target srcs b r g acc raised
  obtain ⟨hduck, hlimiter, hoverloads, hsample⟩ := b.mix_eq cfg target srcs
  obtain ⟨hle, hat⟩ := mixPeak_mixAccs r.1.duck srcs
  refine ⟨fun h => ?_, fun h => ?_, fun h => ?_, mixPeak (mixAccs r.1.duck srcs), hle, hat,
    hlimiter.trans (limiterGain_eq _ _ _), hoverloads, fun i hi => ?_⟩
  · rw [hduck, duckRamp, if_pos h]
    omega
  · rw [hduck, duckRamp, if_neg (by omega), if_pos h]
  · rw [hduck, duckRamp, if_neg (by omega), if_neg (by omega), h]
  · rw [hsample i hi, hlimiter]
    exact toInt_mixOutput (natAbs_mul_limiterGain_le _ _ (hle i hi))

end Sys2Proof.Machine
end

section
/-! PROOFS. What the Link Port's reaction can be, and the block boundary (chapters 4 and 6). -/

namespace Sys2Proof.Machine

/-! ## The Link Port's reaction (section 1.2) -/

/-- The state with one frame of a kind formed and handed to the radio (R8). -/
def State.handedOver (s : State) (k : FrameKind) : State :=
  { s with
    lp := { s.lp with access := .sending, backoff := none, slotEnd := none }
    ports := { s.ports with radioOut := some (encodeFrame (s.frame k)) }
    sa := (s.formFrame k).1.sa }

/-- An ask hands over a frame of the chosen kind or, with none due, enters IDLE. -/
theorem State.ask_cases (s : State) :
    (s.chooseKind = none ∧ s.ask = s.linkIdle) ∨
    ∃ k, s.chooseKind = some k ∧ s.ask = s.handedOver k := by
  cases h : s.chooseKind with
  | none => exact .inl ⟨rfl, State.ask_of_none h⟩
  | some k => exact .inr ⟨k, rfl, State.ask_of_some h⟩

/-- The reaction keeps the state, goes back to IDLE, defers, or hands over a frame. -/
theorem State.linkReact_cases (s : State) :
    s.linkReact = s ∨
    (s.lp.access = .defer ∧ s.frameDue = false ∧ s.linkReact = s.linkIdle) ∨
    (s.lp.access = .idle ∧ s.frameDue = true ∧ s.linkReact = s.deferAccess) ∨
    ∃ k, s.lp.access = .idle ∧ s.frameDue = true ∧ s.chooseKind = some k ∧
      s.linkReact = s.handedOver k := by
  cases h : s.lp.access with
  | idle =>
    rw [State.linkReact_of_idle h]
    cases hdue : s.frameDue with
    | false => exact .inl rfl
    | true =>
      by_cases hquiet : s.QuietGap
      · rw [if_pos rfl, State.accessStart_of_quiet hquiet]
        rcases s.ask_cases with ⟨hnone, _⟩ | ⟨k, hk, hask⟩
        · simp [State.frameDue, hnone] at hdue
        · exact .inr (.inr (.inr ⟨k, rfl, rfl, hk, hask⟩))
      · rw [if_pos rfl, State.accessStart_of_not_quiet hquiet]
        exact .inr (.inr (.inl ⟨rfl, rfl, rfl⟩))
  | defer =>
    rw [State.linkReact_of_defer h]
    cases hdue : s.frameDue with
    | false => exact .inr (.inl ⟨rfl, rfl, rfl⟩)
    | true => exact .inl rfl
  | sending => exact .inl (State.linkReact_of_sent (.inl h))
  | turnaround => exact .inl (State.linkReact_of_sent (.inr h))

/-- Of the ports the reaction touches only what was last handed to the radio. -/
theorem State.linkReact_ports (s : State) :
    s.linkReact.ports = { s.ports with radioOut := s.linkReact.ports.radioOut } := by
  rcases s.linkReact_cases with h | ⟨_, _, h⟩ | ⟨_, _, h⟩ | ⟨k, _, _, _, h⟩ <;> rw [h] <;> rfl

/-! ## The Capture Unit's counts -/

/-- The level of a block is the largest magnitude among its samples (Conventions, Levels). -/
theorem Block.level_spec (b : Block) :
    (∀ x ∈ b.samples, x.toInt.natAbs ≤ b.level) ∧
    (b.level = 0 ∨ ∃ x ∈ b.samples, x.toInt.natAbs = b.level) :=
  (foldl_max_spec (fun x : Sample => x.toInt.natAbs) b.samples 0).2

/-- A sixteenth of the difference, rounded down, never takes the smoothed level below 0 (R58). -/
theorem smooth_eq (avg level : Nat) :
    (smooth avg level : Int) = avg + ((level : Int) - avg) / 16 := by
  rw [smooth, Int.toNat_of_nonneg (by omega)]

theorem State.capture_counts (s : State) (mic : Block) :
    (s.capture mic).1.cu.captureCount = s.cu.captureCount + 1 ∧
    (s.capture mic).1.cu.avg = smooth s.cu.avg mic.level := by
  rw [State.capture_eq]
  split <;> exact ⟨rfl, rfl⟩

/-! ## The step-down that waits (R51) -/

theorem State.activeMates_congr {a s : State} (hru : a.ru = s.ru) (hsl : a.sl = s.sl) :
    a.activeMates = s.activeMates := by
  simp only [State.activeMates, State.isMate, State.cfg, hru, hsl]

theorem State.stepDownEffect_of_settled {s : State} (h : ¬(s.wl.stepDown = true ∧ s.cu.spurt = .quiet)) :
    s.stepDownEffect = s := by
  rw [State.stepDownEffect, if_neg (by simpa using h)]

/-- In QUIET with no member in M the station that gave way leads again at once (R51). -/
theorem State.stepDownEffect_of_alone {s : State} (hready : s.ports.audioReady = true)
    (hquiet : s.cu.spurt = .quiet) (hpending : s.wl.stepDown = true) (hmates : s.activeMates = []) :
    s.stepDownEffect = { s with wl := { s.wl with role := .lead, stepDown := false } } := by
  have stays (wl : WearerLogic) : ({ s with wl := wl } : State).activeMates = [] := hmates
  have hlead := State.takeLead_of_leaderless
    (s := { s with wl := { s.wl with role := .standby, stepDown := false } }) hready
    (by simp [stays])
  simp [State.stepDownEffect, hquiet, hpending, stays, hlead]

/-- A pending step-down takes effect in QUIET: STANDBY, or LEAD again when M is empty (R51). -/
theorem State.stepDownEffect_wl {s : State} (hready : s.ports.audioReady = true) :
    s.stepDownEffect.wl = if s.wl.stepDown = true ∧ s.cu.spurt = .quiet then
      { s.wl with stepDown := false, role := if s.activeMates = [] then .lead else .standby }
      else s.wl := by
  by_cases h : s.wl.stepDown = true ∧ s.cu.spurt = .quiet
  · obtain ⟨hpending, hquiet⟩ := id h
    rw [if_pos h]
    by_cases hmates : s.activeMates = []
    · rw [if_pos hmates, State.stepDownEffect_of_alone hready hquiet hpending hmates]
    · rw [if_neg hmates, State.stepDownEffect_of_quiet hquiet hpending hmates]
  · rw [if_neg h, State.stepDownEffect_of_settled h]

/-! ## The boundary -/

theorem exec_blockBoundary_of_isolated {s : State} {mic call : Block}
    (h : s.ports.audioReady = false) : exec (.blockBoundary mic call) s = .next s := by
  simp [exec, execBlockBoundary, State.isolated, h]

theorem exec_blockBoundary_of_not_running {s : State} {mic call : Block}
    (hready : s.ports.audioReady = true) (h : ¬s.running) :
    exec (.blockBoundary mic call) s = .next s.silentBoundary := by
  simp [exec, execBlockBoundary, State.isolated, hready, h]

/-- The state that a boundary leaves to the queues and the mix. -/
def State.beforeMix (s : State) (mic call : Block) : State :=
  ((s.capture mic).1.joinEntries (s.capture mic).2 call).stepDownEffect

/-- What the queues and the mix leave to the Link Port. -/
def State.afterMix (s : State) (mic call : Block) : State :=
  (s.beforeMix mic call).playAndMix mic call ((s.capture mic).2.map (·.block))

theorem exec_blockBoundary_of_running {s : State} {mic call : Block}
    (hready : s.ports.audioReady = true) (h : s.running) :
    exec (.blockBoundary mic call) s = .next (s.afterMix mic call).linkReact := by
  simp only [exec, execBlockBoundary, State.isolated, hready, Bool.not_true, Bool.false_eq_true,
    if_false, if_pos h]
  rfl

/-- Capture, send queue and step-down leave what the mix reads. -/
theorem State.beforeMix_frame (s : State) (mic call : Block) :
    (s.beforeMix mic call).now = s.now ∧ (s.beforeMix mic call).ports = s.ports ∧
    (s.beforeMix mic call).lp = s.lp ∧ (s.beforeMix mic call).ru = s.ru ∧
    (s.beforeMix mic call).rq = s.rq ∧ (s.beforeMix mic call).me = s.me ∧
    (s.beforeMix mic call).bu = s.bu ∧ (s.beforeMix mic call).cq = s.cq ∧
    (s.beforeMix mic call).sl = s.sl ∧ (s.beforeMix mic call).cu = (s.capture mic).1.cu ∧
    (s.beforeMix mic call).sa = ((s.capture mic).1.joinEntries (s.capture mic).2 call).sa ∧
    (s.beforeMix mic call).cl = ((s.capture mic).1.joinEntries (s.capture mic).2 call).cl := by
  simp [State.beforeMix]

/-- What a boundary taken hands the Mix Engine (R105). -/
def State.mixInput (s : State) (mic call : Block) : MixInput :=
  ⟨mic, (s.capture mic).2.map (·.block), call,
    (s.rq.step s.cfg.depth s.cfg.quietThreshold).2⟩

/-- The ear bus as a boundary taken mixes it. -/
def State.earMixed (s : State) (m : MixInput) : Bus × Block :=
  s.me.ear.mix s.cfg (s.earTarget (s.callLoud m || decide (0 < s.me.hold))) (s.earSources m)

/-- The uplink bus as a boundary taken mixes it, at an ACTIVE bridge alone. -/
def State.upMixed (s : State) (m : MixInput) : Bus × Block :=
  if s.bu.state = .active then s.me.up.mix s.cfg s.upTarget (s.upSources m)
  else (s.me.up, Block.silence)

/-- The hold count behind a boundary taken (R112). -/
def State.holdMixed (s : State) (m : MixInput) : Nat :=
  if s.callLoud m then s.cfg.duckHold else s.me.hold - 1

/-- What the mix hears is read from the tables, the requests, the bridge and the settings alone. -/
theorem State.mixed_congr {a s : State} (hru : a.ru = s.ru) (hcq : a.cq = s.cq)
    (hbu : a.bu = s.bu) (hsl : a.sl = s.sl) (hme : a.me = s.me) (m : MixInput) :
    a.earMixed m = s.earMixed m ∧ a.upMixed m = s.upMixed m ∧ a.holdMixed m = s.holdMixed m := by
  obtain ⟨⟩ := a
  obtain ⟨⟩ := s
  subst hru hcq hbu hsl hme
  exact ⟨rfl, rfl, rfl⟩

theorem State.playAndMix_eq (s : State) (mic call : Block) (sent : Option Block) {m : MixInput}
    (hm : m = ⟨mic, sent, call, (s.rq.step s.cfg.depth s.cfg.quietThreshold).2⟩) :
    s.playAndMix mic call sent = { s with
      me := { ear := (s.earMixed m).1, up := (s.upMixed m).1, hold := s.holdMixed m }
      ports := { s.ports with earOut := (s.earMixed m).2, callOut := (s.upMixed m).2 }
      rq := (s.rq.step s.cfg.depth s.cfg.quietThreshold).1
      ru := { s.ru with peers := playPeers s.cfg.depth s.ru.peers } } := by
  subst hm
  rfl

/-- The state behind queues and mix, with the sources, targets and queues read from `s` itself. -/
theorem State.afterMix_eq (s : State) (mic call : Block) {m : MixInput}
    (hm : m = s.mixInput mic call) :
    s.afterMix mic call = { s.beforeMix mic call with
      me := { ear := (s.earMixed m).1, up := (s.upMixed m).1, hold := s.holdMixed m }
      ports := { s.ports with earOut := (s.earMixed m).2, callOut := (s.upMixed m).2 }
      rq := (s.rq.step s.cfg.depth s.cfg.quietThreshold).1
      ru := { s.ru with peers := playPeers s.cfg.depth s.ru.peers } } := by
  obtain ⟨_, hports, _, hru, hrq, hme, hbu, hcq, hsl, _⟩ := s.beforeMix_frame mic call
  obtain ⟨hear, hup, hhold⟩ := State.mixed_congr hru hcq hbu hsl hme m
  rw [State.afterMix, State.playAndMix_eq _ mic call _ (m := m) (by rw [hm, hrq, State.cfg, hsl]; rfl),
    hear, hup, hhold, hports, hrq, hru, State.cfg, State.cfg, hsl]
  simp only [hsl]

/-- The send queue behind a boundary, with the VOICE entry and, at an ACTIVE bridge, the CALL entry. -/
theorem State.joinEntries_eq (s : State) (mic call : Block) :
    (s.capture mic).1.joinEntries (s.capture mic).2 call =
      (let voiced := match (s.capture mic).2 with
        | some e => (s.capture mic).1.ageQueue.joinQueue e
        | none => (s.capture mic).1.ageQueue
       if s.bu.state = .active then
        voiced.joinQueue ⟨.call, s.cu.captureCount + 1, call, call.level, false, false⟩
       else voiced) := by
  obtain ⟨hcount, _⟩ := s.capture_counts mic
  cases hvoice : (s.capture mic).2 with
  | none => simp [State.joinEntries, State.callEntry, hcount]
  | some e => simp [State.joinEntries, State.callEntry, hcount]

/-- Drops touch the flags alone of the Control Line. -/
@[simp] theorem State.countDrops_outcomes (s : State) (n : Nat) :
    (s.countDrops n).cl.outcomes = s.cl.outcomes := by
  rw [State.countDrops, State.setFlagIf]
  split <;> rfl

theorem State.joinQueue_outcomes (s : State) (e : SendEntry) :
    (s.joinQueue e).cl.outcomes = s.cl.outcomes := s.countDrops_outcomes _

theorem State.ageQueue_outcomes (s : State) : s.ageQueue.cl.outcomes = s.cl.outcomes :=
  s.countDrops_outcomes _

theorem State.joinEntries_outcomes (s : State) (voice : Option SendEntry) (call : Block) :
    (s.joinEntries voice call).cl.outcomes = s.cl.outcomes := by
  have joins (t : State) : (if t.bu.state = .active then t.joinQueue (t.callEntry call)
      else t).cl.outcomes = t.cl.outcomes := by
    split
    · exact t.joinQueue_outcomes _
    · rfl
  cases voice with
  | none => exact (joins _).trans s.ageQueue_outcomes
  | some e => exact (joins _).trans ((State.joinQueue_outcomes _ e).trans s.ageQueue_outcomes)

/-- No evaluation of the role touches own mute. -/
@[simp] theorem State.takeLead_ownMute (s : State) : s.takeLead.wl.ownMute = s.wl.ownMute := by
  rw [State.takeLead]
  split <;> rfl

@[simp] theorem State.stepDownEffect_ownMute (s : State) :
    s.stepDownEffect.wl.ownMute = s.wl.ownMute := by
  rw [State.stepDownEffect]
  split
  · dsimp only
    split
    · exact State.takeLead_ownMute _
    · rfl
  · rfl

@[simp] theorem State.evaluateRole_ownMute (s : State) :
    s.evaluateRole.wl.ownMute = s.wl.ownMute := by
  cases h : s.wl.role with
  | standby => rw [State.evaluateRole_of_standby h, State.takeLead_ownMute]
  | lead =>
    rw [State.evaluateRole, h]
    dsimp only
    split
    · exact State.stepDownEffect_ownMute _
    · rfl

/-- Settles O23. -/
theorem boundaryIsTakenWhole : Obligations.BoundaryIsTakenWhole := by
  refine ⟨⟨Block.level_spec, fun mic call s => ⟨exec_blockBoundary_of_isolated,
    exec_blockBoundary_of_not_running, fun hready hrun =>
      ⟨_, exec_blockBoundary_of_running hready hrun, ?_⟩⟩⟩, ?_⟩
  · obtain ⟨hnow, _, _, _, _, _, hbu, hcq, hsl, hcu, _, hcl⟩ := s.beforeMix_frame mic call
    obtain ⟨hcount, havg⟩ := s.capture_counts mic
    simp only [State.linkReact_frame, State.afterMix_eq s mic call rfl, true_and]
    refine ⟨by rw [hcu, hcount], fun _ => by rw [hcu, havg, smooth_eq], ?_, hbu, hcq, hsl, ?_, ?_,
      hnow⟩
    · simp [playPeers]
    · rw [hcl, State.joinEntries_outcomes]
      simp
    · simp [State.beforeMix]
  · intro mic call s hready hrun c aged voiced joined d m loud ear up active
    obtain ⟨hnow, hports, hlp, hru, _, _, hbu, hcq, hsl, hcu, hsa, hcl⟩ := s.beforeMix_frame mic call
    refine ⟨_, exec_blockBoundary_of_running hready hrun, ?_⟩
    rw [State.afterMix_eq s mic call (m := m) rfl]
    have hjoined := s.joinEntries_eq mic call
    refine ⟨hsa.trans (congrArg State.sa hjoined), hcl.trans (congrArg State.cl hjoined), hcu, hlp,
      rfl, rfl, rfl, rfl, rfl, ?_, ?_, rfl, rfl, ?_⟩
    · by_cases h : active
      · rw [if_pos h]
        exact congrArg Prod.fst (if_pos h)
      · rw [if_neg h]
        exact congrArg Prod.fst (if_neg h)
    · by_cases h : active
      · rw [if_pos h]
        exact congrArg Prod.snd (if_pos h)
      · rw [if_neg h]
        exact congrArg Prod.snd (if_neg h)
    · have hmates : (c.1.joinEntries c.2 call).activeMates = s.activeMates :=
        State.activeMates_congr (by simp [c]) (by simp [c])
      refine (State.stepDownEffect_wl (by simpa using hready)).trans ?_
      rw [hmates]
      simp [c]

end Sys2Proof.Machine
end

section
/-! PROOFS. The two promises of the mix (R106, R107): which queues a bus does not hear. -/

namespace Sys2Proof.Machine

/-! ## The uplink hears nothing of the downlink (R107) -/

/-- What the uplink bus hears of a boundary's input is the sent block alone. -/
theorem State.upMixed_congr (s : State) {m m' : MixInput} (h : m.sent = m'.sent) :
    s.upMixed m = s.upMixed m' := by
  simp only [State.upMixed, State.upSources, State.upBlock, h]

/-- The VOICE entry of a boundary does not depend on the downlink queue. -/
theorem State.capture_entry_congr (s : State) (d : Downlink) (mic : Block) :
    (State.capture { s with rq := d } mic).2 = (s.capture mic).2 := by
  rw [State.capture_eq, State.capture_eq, apply_ite Prod.snd, apply_ite Prod.snd]
  rfl

/-- What a boundary hands the call port and keeps of the uplink bus. -/
def State.farEnd (s : State) : Block × Bus := (s.ports.callOut, s.me.up)

theorem exec_blockBoundary_farEnd {s t : State} {mic call : Block}
    (h : exec (.blockBoundary mic call) s = .next t) :
    t.farEnd = if s.ports.audioReady = false then s.farEnd
      else if s.running then ((s.upMixed (s.mixInput mic call)).2, (s.upMixed (s.mixInput mic call)).1)
      else (Block.silence, s.me.up) := by
  cases hready : s.ports.audioReady with
  | false =>
    rw [exec_blockBoundary_of_isolated hready] at h
    cases h
    rfl
  | true =>
    by_cases hrun : s.running
    · rw [exec_blockBoundary_of_running hready hrun] at h
      cases h
      rw [State.farEnd, State.linkReact_ports, State.afterMix_eq s mic call rfl]
      simp [hrun]
    · rw [exec_blockBoundary_of_not_running hready hrun] at h
      cases h
      simp [hrun, State.farEnd, State.silentBoundary]

/-! ## No queue of the own wearer reaches the ear (R106) -/

/-- An entry with another queue when its wearer is `own`. -/
def Peer.requeued (own : Nat) (q : Peer → Option RxQueue) (p : Peer) : Peer :=
  if p.wearer = own then { p with queue := q p } else p

theorem Peer.requeued_frame (own : Nat) (q : Peer → Option RxQueue) (p : Peer) :
    (p.requeued own q).station = p.station ∧ (p.requeued own q).wearer = p.wearer ∧
    (p.requeued own q).seen = p.seen ∧ (p.requeued own q).header = p.header := by
  rw [Peer.requeued]
  split <;> exact ⟨rfl, rfl, rfl, rfl⟩

/-- The table with other queues at the peers of the own wearer. -/
def State.requeued (s : State) (q : Peer → Option RxQueue) : State :=
  { s with ru := { s.ru with peers := s.ru.peers.map (Peer.requeued s.cfg.wearer q) } }

theorem State.requeued_peer (s : State) (q : Peer → Option RxQueue) (n : Nat) :
    (s.requeued q).peer n = (s.peer n).map (Peer.requeued s.cfg.wearer q) := by
  have : (fun p : Peer => decide (p.station = n)) ∘ Peer.requeued s.cfg.wearer q =
      fun p => decide (p.station = n) := by
    funext p
    simp [(p.requeued_frame s.cfg.wearer q).1]
  exact List.find?_map.trans (by rw [this]; rfl)

theorem State.requeued_floorWearer (s : State) (q : Peer → Option RxQueue) :
    (s.requeued q).floorWearer = s.floorWearer := by
  have hwearer : (s.requeued q).wearerOf = s.wearerOf := by
    funext n
    simp only [State.wearerOf, State.requeued_peer, Option.map_map]
    congr 2
    funext p
    exact (p.requeued_frame s.cfg.wearer q).2.1
  simp only [State.floorWearer, hwearer]
  rfl

/-- The carrier of another wearer keeps its queue. -/
theorem State.requeued_carrier (s : State) (q : Peer → Option RxQueue) {w : Nat}
    (h : w ≠ s.cfg.wearer) : (s.requeued q).carrier w = s.carrier w := by
  have hsame : (fun p : Peer => p.seen && decide (p.wearer = w) && p.header.flags.lead) ∘
      Peer.requeued s.cfg.wearer q =
      fun p => p.seen && decide (p.wearer = w) && p.header.flags.lead := by
    funext p
    obtain ⟨_, hwearer, hseen, hheader⟩ := p.requeued_frame s.cfg.wearer q
    simp [hwearer, hseen, hheader]
  refine List.find?_map.trans ?_
  rw [hsame]
  cases hfound : s.carrier w with
  | none =>
    rw [State.carrier] at hfound
    rw [hfound]
    rfl
  | some p =>
    rw [State.carrier] at hfound
    have := List.find?_some hfound
    simp only [Bool.and_eq_true, decide_eq_true_eq] at this
    obtain ⟨⟨_, hw⟩, _⟩ := this
    rw [hfound]
    exact congrArg some (if_neg (hw ▸ h))

theorem State.requeued_earSource (s : State) (q : Peer → Option RxQueue) :
    (s.requeued q).earSource = s.earSource := by
  funext w
  by_cases h : w = s.cfg.wearer
  · exact (if_pos h).trans (if_pos h).symm
  · refine (if_neg h).trans (Eq.trans ?_ (if_neg h).symm)
    simp only [s.requeued_carrier q h, State.duckApplies, s.requeued_floorWearer q]
    rfl

/-- What a boundary hands the audio port and keeps of the ear bus. -/
def State.nearEnd (s : State) : Block × Bus × Nat := (s.ports.earOut, s.me.ear, s.me.hold)

theorem exec_blockBoundary_nearEnd {s t : State} {mic call : Block}
    (h : exec (.blockBoundary mic call) s = .next t) :
    t.nearEnd = if s.ports.audioReady = false then s.nearEnd
      else if s.running then ((s.earMixed (s.mixInput mic call)).2,
        (s.earMixed (s.mixInput mic call)).1, s.holdMixed (s.mixInput mic call))
      else (Block.silence, s.me.ear, s.me.hold) := by
  cases hready : s.ports.audioReady with
  | false =>
    rw [exec_blockBoundary_of_isolated hready] at h
    cases h
    rfl
  | true =>
    by_cases hrun : s.running
    · rw [exec_blockBoundary_of_running hready hrun] at h
      cases h
      rw [State.nearEnd, State.linkReact_ports, State.afterMix_eq s mic call rfl]
      simp [hrun]
    · rw [exec_blockBoundary_of_not_running hready hrun] at h
      cases h
      simp [hrun, State.nearEnd, State.silentBoundary]

/-- The ear bus hears of a boundary's input neither the sent block nor a queue of the own wearer. -/
theorem State.requeued_earMixed (s : State) (q : Peer → Option RxQueue) (mic call : Block) :
    (s.requeued q).earMixed ((s.requeued q).mixInput mic call) = s.earMixed (s.mixInput mic call) ∧
    (s.requeued q).holdMixed ((s.requeued q).mixInput mic call) =
      s.holdMixed (s.mixInput mic call) := by
  have hloud : (s.requeued q).callLoud ((s.requeued q).mixInput mic call) =
      s.callLoud (s.mixInput mic call) := rfl
  have htarget (b : Bool) : (s.requeued q).earTarget b = s.earTarget b := by
    simp only [State.earTarget, s.requeued_floorWearer q]
    rfl
  have hsources : (s.requeued q).earSources ((s.requeued q).mixInput mic call) =
      s.earSources (s.mixInput mic call) := by
    simp only [State.earSources, s.requeued_earSource q]
    rfl
  refine ⟨?_, by rw [State.holdMixed, hloud]; rfl⟩
  rw [State.earMixed, hloud, htarget, hsources]
  rfl

/-- Settles O45. -/
theorem busesKeepTheirSourcesApart : Obligations.BusesKeepTheirSourcesApart := by
  refine ⟨fun s t t' mic call call' d h h' => ?_, fun s t t' mic call q h h' => ?_⟩
  · have hsame : t.farEnd = t'.farEnd := by
      rw [exec_blockBoundary_farEnd h, exec_blockBoundary_farEnd h',
        s.upMixed_congr (m := s.mixInput mic call)
          (m' := State.mixInput { s with rq := d } mic call')
          (congrArg (Option.map SendEntry.block) (s.capture_entry_congr d mic).symm)]
      rfl
    exact Prod.mk.inj hsame
  · have hsame : t.nearEnd = t'.nearEnd := by
      obtain ⟨hear, hhold⟩ := s.requeued_earMixed q mic call
      rw [exec_blockBoundary_nearEnd h, exec_blockBoundary_nearEnd (s := s.requeued q) h', hear, hhold]
      rfl
    simpa [State.nearEnd] using hsame

end Sys2Proof.Machine
end

section
/-! PROOFS. Echoes and the floor view at the requester (sections 8.1 and 8.6). -/

namespace Sys2Proof.Machine

/-! ## An echoed toggle (R148) -/

/-- What an echoed toggle makes of a slot, with the outcome that it records (R148's table). -/
def Slot.echoed (sl : Slot) (toggle : Bool) : Option (Slot × ReqOutcome) :=
  if toggle = sl.toggle then
    if sl.pending then some (sl.settle, .accepted)
    else if sl.late then some ({ sl with late := false }, .late) else none
  else none

theorem Slot.echoed_of_other {sl : Slot} {b : Bool} (h : b ≠ sl.toggle) : sl.echoed b = none :=
  if_neg h

theorem Slot.echoed_of_pending {sl : Slot} {b : Bool} (h : b = sl.toggle) (ht : sl.timer ≠ none) :
    sl.echoed b = some ({ sl with timer := none }, .accepted) := by
  simp [Slot.echoed, h, Slot.pending, Slot.settle, Option.isSome_iff_ne_none, ht]

theorem Slot.echoed_of_late {sl : Slot} {b : Bool} (h : b = sl.toggle) (ht : sl.timer = none)
    (hl : sl.late = true) : sl.echoed b = some ({ sl with late := false }, .late) := by
  simp [Slot.echoed, h, Slot.pending, ht, hl]

theorem Slot.echoed_of_idle {sl : Slot} {b : Bool} (ht : sl.timer = none) (hl : sl.late = false) :
    sl.echoed b = none := by
  simp [Slot.echoed, Slot.pending, ht, hl]

theorem Slot.echoed_isSome {sl : Slot} {b : Bool} :
    (sl.echoed b).isSome = true ↔ b = sl.toggle ∧ (sl.timer ≠ none ∨ sl.late = true) := by
  by_cases h : b = sl.toggle
  · by_cases ht : sl.timer = none
    · cases hl : sl.late <;> simp [Slot.echoed, h, Slot.pending, ht, hl]
    · rw [Slot.echoed_of_pending h ht]
      simp [h, ht]
  · simp [Slot.echoed_of_other h, h]

/-- What an echo of the kinds `ks` leaves: each slot and each last outcome as R148's table says. -/
structure State.Echoed (s : State) (toggles : PerKind Bool) (ks : List ReqKind) (t : State) :
    Prop where
  shape : t = { s with cq := { s.cq with slots := t.cq.slots },
                       cl := { s.cl with outcomes := t.cl.outcomes, flags := t.cl.flags } }
  slot : ∀ k, t.cq.slots.get k =
    if k ∈ ks then (((s.cq.slots.get k).echoed (toggles.get k)).map (·.1)).getD (s.cq.slots.get k)
    else s.cq.slots.get k
  outcome : ∀ k, t.cl.outcomes.get k =
    if k ∈ ks then (((s.cq.slots.get k).echoed (toggles.get k)).map (·.2)).getD
      (s.cl.outcomes.get k)
    else s.cl.outcomes.get k
  flags : t.cl.flags = s.cl.flags |||
    if ∃ k ∈ ks, ((s.cq.slots.get k).echoed (toggles.get k)).isSome = true then stickyMask .reqOutcome
    else 0

theorem State.echoKind_eq (s : State) (k : ReqKind) (b : Bool) :
    s.echoKind k b = ((s.cq.slots.get k).echoed b).elim s
      (fun r => (s.setSlot k r.1).record k r.2) := by
  simp only [State.echoKind, Slot.echoed]
  split_ifs <;> rfl

theorem State.echoed_nil (s : State) (toggles : PerKind Bool) : s.Echoed toggles [] s :=
  ⟨rfl, by simp, by simp, by simp⟩

/-- One kind more: its slot is still as it was, since no kind is echoed twice. -/
theorem State.Echoed.snoc {s t : State} {toggles : PerKind Bool} {ks : List ReqKind}
    (h : s.Echoed toggles ks t) {k : ReqKind} (hk : k ∉ ks) :
    s.Echoed toggles (ks ++ [k]) (t.echoKind k (toggles.get k)) := by
  have hslot : t.cq.slots.get k = s.cq.slots.get k := (h.slot k).trans (if_neg hk)
  have houtcome : t.cl.outcomes.get k = s.cl.outcomes.get k := (h.outcome k).trans (if_neg hk)
  rw [State.echoKind_eq, hslot]
  cases hecho : (s.cq.slots.get k).echoed (toggles.get k) with
  | none =>
    refine ⟨h.shape, fun j => ?_, fun j => ?_, ?_⟩
    · by_cases hj : j = k
      · subst hj
        simp [hecho, hslot]
      · simpa [hj] using h.slot j
    · by_cases hj : j = k
      · subst hj
        simp [hecho, houtcome]
      · simpa [hj] using h.outcome j
    · simpa [hecho, or_and_right, exists_or] using h.flags
  | some r =>
    refine ⟨?_, fun j => ?_, fun j => ?_, ?_⟩
    · conv_lhs => rw [h.shape]
      rfl
    · by_cases hj : j = k
      · subst hj
        simp [hecho]
      · simpa [hj, PerKind.get_set_other _ hj] using h.slot j
    · by_cases hj : j = k
      · subst hj
        simp [hecho, State.record]
      · simpa [hj, PerKind.get_set_other _ hj, State.record] using h.outcome j
    · have hset : ((t.setSlot k r.1).record k r.2).cl.flags = t.cl.flags ||| stickyMask .reqOutcome :=
        rfl
      have hany : ∃ j ∈ ks ++ [k], ((s.cq.slots.get j).echoed (toggles.get j)).isSome = true :=
        ⟨k, by simp, by simp [hecho]⟩
      rw [Option.elim_some, hset, h.flags, if_pos hany, BitVec.or_assoc]
      split <;> simp

theorem State.echoed_takeEcho (s : State) (toggles : PerKind Bool) :
    s.Echoed toggles allKinds (s.takeEcho toggles) :=
  ((((s.echoed_nil toggles).snoc (k := .answer) (by simp)).snoc (k := .hangup) (by simp)).snoc
    (k := .floor) (by simp)).snoc (k := .yield) (by simp)

theorem mem_allKinds (k : ReqKind) : k ∈ allKinds := by cases k <;> decide

/-! ## Extras (R144, R148, R167) -/

theorem State.takeExtras_of_other {s : State} {n : Nat} (h : s.bu.followed ≠ some n) (x : Extras) :
    s.takeExtras n x = s := if_neg h

theorem State.takeExtras_of_followed {s : State} {n : Nat} (h : s.bu.followed = some n) (x : Extras) :
    s.takeExtras n x = ((x.echoes.find? (fun e => e.station = s.own)).elim s
      (fun e => s.takeEcho e.toggles)).takeView x := by
  rw [State.takeExtras, if_pos h]
  cases x.echoes.find? (fun e => e.station = s.own) <;> rfl

theorem viewOf_eq (now : Nat) (x : Extras) :
    viewOf now x = if x.holder ≠ 0 ∧ x.holderWearer ≠ 0 ∧ 1 ≤ x.remaining then
      some ⟨x.holder, x.holderWearer, now + 10000 * x.remaining⟩ else none := by
  have : now + millis (x.remaining * 100) = now + 10000 * x.remaining := by
    rw [millis]
    omega
  rw [viewOf, this]

/-- Settles O50. -/
theorem extrasSettleSlotsAndView : Obligations.ExtrasSettleSlotsAndView := by
  intro s n x
  refine ⟨fun h => State.takeExtras_of_other h x, fun h => ?_⟩
  intro t view
  have ht : t = _ := State.takeExtras_of_followed h x
  have hview : view = viewOf s.now x := (viewOf_eq s.now x).symm
  refine ⟨fun hnone => ?_, fun e he => ?_⟩
  · have : x.echoes.find? (fun e => decide (e.station = s.own)) = none :=
      List.find?_eq_none.2 fun e he => by simpa using hnone e he
    rw [ht, this, hview]
    rfl
  · rw [he] at ht
    have hecho := s.echoed_takeEcho e.toggles
    have hslots : t.cq.slots = (s.takeEcho e.toggles).cq.slots := by
      rw [ht]
      rfl
    have hcl : t.cl = (s.takeEcho e.toggles).cl := by
      rw [ht]
      rfl
    have hslot (k : ReqKind) := (hecho.slot k).trans (if_pos (mem_allKinds k))
    have houtcome (k : ReqKind) := (hecho.outcome k).trans (if_pos (mem_allKinds k))
    rw [hslots, hcl]
    refine ⟨?_, fun k => ?_, ?_⟩
    · rw [ht, Option.elim_some, State.takeView, (s.takeEcho_frame e.toggles).1, ← hview]
      conv_lhs => rw [hecho.shape]
    · intro sl
      rw [hslot, houtcome]
      refine ⟨fun hne => ?_, fun heq hpend => ?_, fun heq hidle hlate => ?_, fun hidle hlate => ?_⟩
      · rw [Slot.echoed_of_other hne]
        exact ⟨rfl, rfl⟩
      · rw [Slot.echoed_of_pending heq hpend]
        exact ⟨rfl, rfl⟩
      · rw [Slot.echoed_of_late heq hidle hlate]
        exact ⟨rfl, rfl⟩
      · rw [Slot.echoed_of_idle hidle hlate]
        exact ⟨rfl, rfl⟩
    · rw [hecho.flags]
      simp only [Slot.echoed_isSome]
      rfl

end Sys2Proof.Machine
end

section
/-! PROOFS. Requests acted on at the bridge (sections 8.2 to 8.4): the stations on the floor, the
latches and the prompt PRESENCE, request by request. -/

namespace Sys2Proof.Machine

/-! ## The sticky flags (R177) -/

theorem State.flag_setFlag (s : State) (f g : Sticky) :
    (s.setFlag f).flag g = (s.flag g || decide (f = g)) := by
  have hbit : (stickyMask f).getLsbD (stickyBit g) = decide (f = g) := by
    cases f <;> cases g <;> decide
  rw [State.flag, State.setFlag_flags, BitVec.getLsbD_or, hbit]
  rfl

theorem State.flag_congr {s t : State} (h : t.cl.flags = s.cl.flags) (f : Sticky) :
    t.flag f = s.flag f := by
  rw [State.flag, State.flag, h]

/-! ## What an operation of the Call Request Unit leaves of its own block and of the Control Line -/

@[simp] theorem State.setFlagIf_cl (s : State) (c : Bool) (f : Sticky) :
    (s.setFlagIf c f).cl.mask = s.cl.mask ∧ (s.setFlagIf c f).cl.outcomes = s.cl.outcomes ∧
    (s.setFlagIf c f).cl.sending = s.cl.sending ∧ (s.setFlagIf c f).cl.waiting = s.cl.waiting ∧
    (s.setFlagIf c f).cl.unknownCommands = s.cl.unknownCommands ∧
    (s.setFlagIf c f).cl.reportOverflows = s.cl.reportOverflows := by
  unfold State.setFlagIf
  split <;> simp

/-- An ended grant touches the floor, and of the Control Line the flags. -/
@[simp] theorem State.endGrant_rest (s : State) :
    s.endGrant.cq.slots = s.cq.slots ∧ s.endGrant.cq.view = s.cq.view ∧
    s.endGrant.cq.latches = s.cq.latches ∧ s.endGrant.cq.merges = s.cq.merges ∧
    s.endGrant.cl.mask = s.cl.mask ∧ s.endGrant.cl.outcomes = s.cl.outcomes ∧
    s.endGrant.cl.sending = s.cl.sending ∧ s.endGrant.cl.waiting = s.cl.waiting ∧
    s.endGrant.cl.unknownCommands = s.cl.unknownCommands ∧
    s.endGrant.cl.reportOverflows = s.cl.reportOverflows := by
  unfold State.endGrant
  split <;> exact ⟨rfl, rfl, rfl, rfl, rfl, rfl, rfl, rfl, rfl, rfl⟩

@[simp] theorem State.requestFloor_rest (s : State) (n : Nat) :
    (s.requestFloor n).cq.slots = s.cq.slots ∧ (s.requestFloor n).cq.view = s.cq.view ∧
    (s.requestFloor n).cq.latches = s.cq.latches ∧ (s.requestFloor n).cq.merges = s.cq.merges ∧
    (s.requestFloor n).cl.mask = s.cl.mask ∧ (s.requestFloor n).cl.outcomes = s.cl.outcomes ∧
    (s.requestFloor n).cl.sending = s.cl.sending ∧ (s.requestFloor n).cl.waiting = s.cl.waiting ∧
    (s.requestFloor n).cl.unknownCommands = s.cl.unknownCommands ∧
    (s.requestFloor n).cl.reportOverflows = s.cl.reportOverflows := by
  unfold State.requestFloor
  split_ifs <;> exact ⟨rfl, rfl, rfl, rfl, rfl, rfl, rfl, rfl, rfl, rfl⟩

@[simp] theorem State.leaveFloor_rest (s : State) (n : Nat) :
    (s.leaveFloor n).cq.slots = s.cq.slots ∧ (s.leaveFloor n).cq.view = s.cq.view ∧
    (s.leaveFloor n).cq.latches = s.cq.latches ∧ (s.leaveFloor n).cq.merges = s.cq.merges ∧
    (s.leaveFloor n).cl.mask = s.cl.mask ∧ (s.leaveFloor n).cl.outcomes = s.cl.outcomes ∧
    (s.leaveFloor n).cl.sending = s.cl.sending ∧ (s.leaveFloor n).cl.waiting = s.cl.waiting ∧
    (s.leaveFloor n).cl.unknownCommands = s.cl.unknownCommands ∧
    (s.leaveFloor n).cl.reportOverflows = s.cl.reportOverflows := by
  unfold State.leaveFloor
  split
  · exact s.endGrant_rest
  · exact ⟨rfl, rfl, rfl, rfl, rfl, rfl, rfl, rfl, rfl, rfl⟩

@[simp] theorem State.pushReport_rest (s : State) (r : Report) :
    (s.pushReport r).cl.flags = s.cl.flags ∧ (s.pushReport r).cl.mask = s.cl.mask ∧
    (s.pushReport r).cl.outcomes = s.cl.outcomes ∧
    (s.pushReport r).cl.unknownCommands = s.cl.unknownCommands ∧
    (s.pushReport r).cl.reportOverflows = s.cl.reportOverflows := by
  unfold State.pushReport
  split <;> exact ⟨rfl, rfl, rfl, rfl, rfl⟩

@[simp] theorem State.formRequest_rest (s : State) (k : LatchKind) :
    (s.formRequest k).cl.flags = s.cl.flags ∧ (s.formRequest k).cl.mask = s.cl.mask ∧
    (s.formRequest k).cl.outcomes = s.cl.outcomes ∧
    (s.formRequest k).cl.unknownCommands = s.cl.unknownCommands := by
  unfold State.formRequest
  split <;> simp

/-- A latch set or merged touches the latches and merge counts, and the report queue. -/
@[simp] theorem State.setLatch_rest (s : State) (k : LatchKind) :
    (s.setLatch k).cq.slots = s.cq.slots ∧ (s.setLatch k).cq.view = s.cq.view ∧
    (s.setLatch k).cq.holder = s.cq.holder ∧ (s.setLatch k).cq.grant = s.cq.grant ∧
    (s.setLatch k).cq.floorQueue = s.cq.floorQueue ∧ (s.setLatch k).cl.flags = s.cl.flags ∧
    (s.setLatch k).cl.mask = s.cl.mask ∧ (s.setLatch k).cl.outcomes = s.cl.outcomes ∧
    (s.setLatch k).cl.unknownCommands = s.cl.unknownCommands := by
  unfold State.setLatch
  split <;> simp

/-- A latch of the kind is set, or merges when it was set already (R156). -/
theorem State.setLatch_get (s : State) (k l : LatchKind) :
    (s.setLatch k).cq.latches.get l = (s.cq.latches.get l || decide (k = l)) ∧
    (s.setLatch k).cq.merges.get l = if k = l ∧ s.cq.latches.get l = true then
      countUp (s.cq.merges.get l) 1 else s.cq.merges.get l := by
  cases h : s.cq.latches.get k with
  | true =>
    rw [State.setLatch_of_set h]
    cases k <;> cases l <;> simp_all [PerLatch.get, PerLatch.set]
  | false =>
    rw [State.setLatch_of_clear h]
    cases k <;> cases l <;> simp_all [State.withLatch, PerLatch.get, PerLatch.set]

/-! ## The stations on the floor (R158 to R160) -/

/-- The floor holds no station twice, and nobody waits behind no holder. -/
def State.FloorShape (s : State) : Prop :=
  s.onFloor.Nodup ∧ (s.cq.holder = none → s.cq.floorQueue = [])

theorem State.onFloor_of_holder {s : State} {m : Nat} (h : s.cq.holder = some m) :
    s.onFloor = m :: s.cq.floorQueue := by
  simp [State.onFloor, h]

theorem State.onFloor_of_vacant {s : State} (hs : s.FloorShape) (h : s.cq.holder = none) :
    s.onFloor = [] := by
  simp [State.onFloor, h, hs.2 h]

/-- The floor is read from holder and queue alone. -/
theorem State.onFloor_congr {s t : State} (hh : t.cq.holder = s.cq.holder)
    (hq : t.cq.floorQueue = s.cq.floorQueue) :
    t.onFloor = s.onFloor ∧ (s.FloorShape → t.FloorShape) := by
  have : t.onFloor = s.onFloor := by rw [State.onFloor, State.onFloor, hh, hq]
  exact ⟨this, fun ⟨hnd, hnone⟩ => ⟨this ▸ hnd, by rw [hh, hq]; exact hnone⟩⟩

/-- Behind an ended grant the queue stands alone on the floor (R161). -/
theorem State.endGrant_onFloor (s : State) :
    s.endGrant.onFloor = s.cq.floorQueue ∧
    (s.endGrant.cq.holder = none → s.endGrant.cq.floorQueue = []) := by
  cases h : s.cq.floorQueue with
  | nil => simp [State.endGrant_of_none_waiting h, State.onFloor, h]
  | cons m rest => simp [State.endGrant_of_oldest h, State.onFloor]

/-- FLOOR puts a station on the floor that is not on it, behind all others (R159). -/
theorem State.requestFloor_onFloor {s : State} (hs : s.FloorShape) (n : Nat) :
    (s.requestFloor n).onFloor = (if n ∈ s.onFloor then s.onFloor else s.onFloor ++ [n]) ∧
    (s.requestFloor n).FloorShape := by
  cases hholder : s.cq.holder with
  | none =>
    have hempty := hs.2 hholder
    rw [State.requestFloor_of_vacant hholder (by simp [hempty])]
    simp [State.onFloor, State.FloorShape, hholder, hempty]
  | some m =>
    have hon := State.onFloor_of_holder hholder
    by_cases hm : m = n
    · subst hm
      rw [State.requestFloor_of_holder hholder, if_pos (by simp [hon])]
      exact ⟨rfl, hs⟩
    · by_cases hq : n ∈ s.cq.floorQueue
      · rw [State.requestFloor_of_queued (by simp [hholder, hm]) hq, if_pos (by simp [hon, hq])]
        exact ⟨rfl, hs⟩
      · have hnew : n ∉ s.onFloor := by simp [hon, hq, Ne.symm hm]
        have hjoins : (s.requestFloor n).onFloor = s.onFloor ++ [n] := by
          simp [State.requestFloor_of_behind hholder hm hq, State.onFloor, hholder]
        rw [if_neg hnew]
        refine ⟨hjoins, ?_, ?_⟩
        · rw [hjoins]
          exact List.nodup_append.2 ⟨hs.1, by simp, fun a ha b hb e =>
            hnew (List.mem_singleton.1 hb ▸ e ▸ ha)⟩
        · rw [State.requestFloor_of_behind hholder hm hq]
          simp [hholder]

/-- YIELD, a loss or a removal takes a station off the floor and no other (R160, R162). -/
theorem State.leaveFloor_onFloor {s : State} (hs : s.FloorShape) (n : Nat) :
    (s.leaveFloor n).onFloor = s.onFloor.filter (· ≠ n) ∧ (s.leaveFloor n).FloorShape := by
  have shape {t : State} (hon : t.onFloor = s.onFloor.filter (· ≠ n))
      (hnone : t.cq.holder = none → t.cq.floorQueue = []) :
      t.onFloor = s.onFloor.filter (· ≠ n) ∧ t.FloorShape :=
    ⟨hon, hon ▸ hs.1.filter _, hnone⟩
  by_cases h : s.cq.holder = some n
  · obtain ⟨hon, hnone⟩ := s.endGrant_onFloor
    have hnd := hs.1
    rw [State.onFloor_of_holder h, List.nodup_cons] at hnd
    rw [State.leaveFloor_of_holder h]
    refine shape (hon.trans ?_) hnone
    rw [State.onFloor_of_holder h, List.filter_cons_of_neg (by simp),
      List.filter_eq_self.2 fun a ha => decide_eq_true (p := a ≠ n) fun e => hnd.1 (e ▸ ha)]
  · rw [State.leaveFloor_of_not_holder h]
    refine shape ?_ fun hnone => ?_
    · cases hholder : s.cq.holder with
      | none => simp [State.onFloor, hholder]
      | some m =>
        have hm : m ≠ n := fun e => h (by rw [hholder, e])
        simp [State.onFloor, hholder, hm]
    · simp [hs.2 hnone]

/-! ## One request acted on (R154) -/

/-- The floor behind one request of a station. -/
def floorAfter (floor : List Nat) (n : Nat) : ReqKind → List Nat
  | .answer => floor
  | .hangup => floor
  | .floor => if n ∈ floor then floor else floor ++ [n]
  | .yield => floor.filter (· ≠ n)

theorem State.act_onFloor {s : State} (hs : s.FloorShape) (k : ReqKind) (n : Nat) :
    (s.act k n).onFloor = floorAfter s.onFloor n k ∧ (s.act k n).FloorShape := by
  have latch (l : LatchKind) : (s.setLatch l).askPresence.onFloor = s.onFloor ∧
      (s.setLatch l).askPresence.FloorShape := by
    obtain ⟨hon, hshape⟩ := State.onFloor_congr (s := s) (t := (s.setLatch l).askPresence)
      (by simp) (by simp)
    exact ⟨hon, hshape hs⟩
  cases k with
  | answer => exact latch .answer
  | hangup => exact latch .hangup
  | floor => exact State.requestFloor_onFloor hs n
  | yield => exact State.leaveFloor_onFloor hs n

/-- A request touches of the Send Assembler the prompt PRESENCE alone, which it makes due. -/
theorem State.act_sa (s : State) (k : ReqKind) (n : Nat) :
    (s.act k n).sa = { s.sa with promptDue := true } := by
  cases k <;> simp [State.act, State.askPresence]

@[simp] theorem State.act_rest (s : State) (k : ReqKind) (n : Nat) :
    (s.act k n).cq.slots = s.cq.slots ∧ (s.act k n).cq.view = s.cq.view ∧
    (s.act k n).cl.mask = s.cl.mask ∧ (s.act k n).cl.outcomes = s.cl.outcomes ∧
    (s.act k n).cl.unknownCommands = s.cl.unknownCommands := by
  cases k <;> simp [State.act]

/-- ANSWER and HANGUP set their latch; the others touch none. -/
theorem State.act_latches (s : State) (k : ReqKind) (n : Nat) (l : LatchKind) :
    (s.act k n).cq.latches.get l = (s.cq.latches.get l || decide (k = latchReqKind l)) ∧
    (s.act k n).cq.merges.get l =
      if k = latchReqKind l ∧ s.cq.latches.get l = true then countUp (s.cq.merges.get l) 1
      else s.cq.merges.get l := by
  cases k with
  | answer =>
    obtain ⟨hlatch, hmerge⟩ := s.setLatch_get .answer l
    refine ⟨hlatch.trans ?_, hmerge.trans ?_⟩ <;> cases l <;> simp [latchReqKind]
  | hangup =>
    obtain ⟨hlatch, hmerge⟩ := s.setLatch_get .hangup l
    refine ⟨hlatch.trans ?_, hmerge.trans ?_⟩ <;> cases l <;> simp [latchReqKind]
  | floor => cases l <;> simp [State.act, latchReqKind]
  | yield => cases l <;> simp [State.act, latchReqKind]

/-- The grant is one that starts now, and runs exactly with a holder. -/
def State.FreshGrant (s : State) : Prop :=
  s.cq.grant = if s.cq.holder = none then none else some s.grantEnds

theorem State.act_freshGrant {s : State} (h : s.FreshGrant) (k : ReqKind) (n : Nat) :
    (s.act k n).FreshGrant := by
  have fresh {t : State} (hends : t.grantEnds = s.grantEnds)
      (hgrant : t.cq.grant = if t.cq.holder = none then none else some s.grantEnds) :
      t.FreshGrant := by rw [State.FreshGrant, hgrant, hends]
  have hends : (s.act k n).grantEnds = s.grantEnds := by simp [State.grantEnds, State.cfg]
  have hended : s.endGrant.cq.grant =
      if s.endGrant.cq.holder = none then none else some s.grantEnds := by
    cases hq : s.cq.floorQueue with
    | nil => simp [State.endGrant_of_none_waiting hq]
    | cons m rest => simp [State.endGrant_of_oldest hq]
  refine fresh hends ?_
  rw [State.FreshGrant] at h
  cases k with
  | answer => simpa [State.act] using h
  | hangup => simpa [State.act] using h
  | floor =>
    change (s.requestFloor n).cq.grant = if (s.requestFloor n).cq.holder = none then _ else _
    unfold State.requestFloor
    split_ifs <;> simp_all
  | yield =>
    change (s.leaveFloor n).cq.grant = if (s.leaveFloor n).cq.holder = none then _ else _
    by_cases hn : s.cq.holder = some n
    · rw [State.leaveFloor_of_holder hn]
      exact hended
    · rw [State.leaveFloor_of_not_holder hn]
      exact h

/-- A holder was told with FLOOR_CHANGE. -/
def State.FloorTold (s : State) : Prop := s.cq.holder ≠ none → s.flag .floorChange = true

theorem State.endGrant_flag (s : State) (f : Sticky) :
    s.endGrant.flag f = (s.flag f || decide (.floorChange = f)) := by
  unfold State.endGrant
  split <;> exact (State.flag_setFlag _ _ _).trans rfl

/-- Of the sticky flags a request acted on can set FLOOR_CHANGE alone. -/
theorem State.act_flag (s : State) (k : ReqKind) (n : Nat) {f : Sticky} (hf : f ≠ .floorChange) :
    (s.act k n).flag f = s.flag f := by
  have ended : s.endGrant.flag f = s.flag f := by simp [State.endGrant_flag, Ne.symm hf]
  cases k with
  | answer => exact State.flag_congr (by simp [State.act]) f
  | hangup => exact State.flag_congr (by simp [State.act]) f
  | floor =>
    change (s.requestFloor n).flag f = s.flag f
    unfold State.requestFloor
    split_ifs
    · rfl
    · rfl
    · rfl
    · rw [State.flag_setFlag]
      simp [Ne.symm hf, State.flag]
  | yield =>
    change (s.leaveFloor n).flag f = s.flag f
    unfold State.leaveFloor
    split
    · exact ended
    · rfl

/-- A floor request is told, be it that the station becomes the holder or that there is one. -/
theorem State.act_floorTold {s : State} (hs : s.FloorShape) (h : s.FloorTold) (k : ReqKind) (n : Nat) :
    (s.act k n).FloorTold ∧
    ((s.act k n).flag .floorChange = true ↔ s.flag .floorChange = true ∨ k = .floor) := by
  have latch (l : LatchKind) : (s.setLatch l).askPresence.FloorTold ∧
      (s.setLatch l).askPresence.flag .floorChange = s.flag .floorChange := by
    have hflag : (s.setLatch l).askPresence.flag .floorChange = s.flag .floorChange :=
      State.flag_congr (by simp) _
    have hholder : (s.setLatch l).askPresence.cq.holder = s.cq.holder := by simp
    exact ⟨by rw [State.FloorTold, hflag, hholder]; exact h, hflag⟩
  cases k with
  | answer =>
    obtain ⟨htold, hflag⟩ := latch .answer
    exact ⟨htold, by simp [State.act, hflag]⟩
  | hangup =>
    obtain ⟨htold, hflag⟩ := latch .hangup
    exact ⟨htold, by simp [State.act, hflag]⟩
  | floor =>
    have hset : (s.requestFloor n).flag .floorChange = true := by
      cases hholder : s.cq.holder with
      | none =>
        rw [State.requestFloor_of_vacant hholder (by simp [hs.2 hholder]), State.flag_setFlag]
        simp
      | some m =>
        have := h (by simp [hholder])
        rw [← this]
        unfold State.requestFloor
        split_ifs with hheld hqueued hbusy
        · rfl
        · rfl
        · rfl
        · exact absurd (by simp [hholder]) hbusy
    exact ⟨fun _ => hset, iff_of_true hset (.inr rfl)⟩
  | yield =>
    change (s.leaveFloor n).FloorTold ∧ ((s.leaveFloor n).flag .floorChange = true ↔ _)
    by_cases hn : s.cq.holder = some n
    · have hset : s.endGrant.flag .floorChange = true := by simp [State.endGrant_flag]
      rw [State.leaveFloor_of_holder hn]
      exact ⟨fun _ => hset, by simp [hset, h (by simp [hn])]⟩
    · rw [State.leaveFloor_of_not_holder hn]
      exact ⟨h, by simp [State.flag]⟩

/-! ## The requests of one station, acted on in kind order (R151, R152) -/

/-- What a prelude to a request leaves as it was for acting on it: the floor, the latches, the Send
Assembler, the time and the settings. -/
structure State.Undisturbed (s t : State) : Prop where
  holder : t.cq.holder = s.cq.holder
  grant : t.cq.grant = s.cq.grant
  queue : t.cq.floorQueue = s.cq.floorQueue
  latches : t.cq.latches = s.cq.latches
  merges : t.cq.merges = s.cq.merges
  sa : t.sa = s.sa
  ends : t.grantEnds = s.grantEnds
  flags : ∀ f, f ≠ .reqOutcome → t.flag f = s.flag f

theorem State.Undisturbed.refl (s : State) : s.Undisturbed s :=
  ⟨rfl, rfl, rfl, rfl, rfl, rfl, rfl, fun _ _ => rfl⟩

/-- What acting on the kinds `ks` that are set in `w` leaves of a floor in shape. -/
structure State.Visited (s : State) (w : PerKind Bool) (n : Nat) (ks : List ReqKind) (t : State) :
    Prop where
  onFloor : t.onFloor = ks.foldl (fun l k => if w.get k then floorAfter l n k else l) s.onFloor
  shape : t.FloorShape
  latches : ∀ l, t.cq.latches.get l = true ↔
    s.cq.latches.get l = true ∨ latchReqKind l ∈ ks ∧ w.get (latchReqKind l) = true
  merges : ∀ l, t.cq.merges.get l =
    if latchReqKind l ∈ ks ∧ w.get (latchReqKind l) = true ∧ s.cq.latches.get l = true then
      countUp (s.cq.merges.get l) 1 else s.cq.merges.get l
  sa : t.sa = { s.sa with promptDue := s.sa.promptDue || ks.any w.get }
  still : (∀ k ∈ ks, w.get k = true → k = .answer ∨ k = .hangup) →
    t.cq.holder = s.cq.holder ∧ t.cq.grant = s.cq.grant ∧ t.cq.floorQueue = s.cq.floorQueue
  fresh : s.FreshGrant → t.FreshGrant
  told : s.FloorTold → t.FloorTold ∧ (t.flag .floorChange = true ↔
    s.flag .floorChange = true ∨ .floor ∈ ks ∧ w.get .floor = true)
  flags : ∀ f, f ≠ .floorChange → f ≠ .reqOutcome → t.flag f = s.flag f

theorem State.visited_nil {s : State} (hs : s.FloorShape) (w : PerKind Bool) (n : Nat) :
    s.Visited w n [] s :=
  ⟨rfl, hs, by simp, by simp, by simp, fun _ => ⟨rfl, rfl, rfl⟩, id, fun h => ⟨h, by simp⟩,
    fun _ _ _ => rfl⟩

theorem State.act_still (s : State) {k : ReqKind} (h : k = .answer ∨ k = .hangup) (n : Nat) :
    (s.act k n).cq.holder = s.cq.holder ∧ (s.act k n).cq.grant = s.cq.grant ∧
    (s.act k n).cq.floorQueue = s.cq.floorQueue := by
  rcases h with rfl | rfl <;> simp [State.act]

/-- One kind more; a latch of that kind is still as it was, since no kind is acted on twice. -/
theorem State.Visited.snoc {s t u : State} {w : PerKind Bool} {n : Nat} {ks : List ReqKind}
    (h : s.Visited w n ks t) {k : ReqKind} (hk : k ∉ ks) (hu : t.Undisturbed u) :
    s.Visited w n (ks ++ [k]) (if w.get k then u.act k n else t) := by
  by_cases hw : w.get k = true
  · rw [if_pos hw]
    obtain ⟨hsame, hkeeps⟩ := State.onFloor_congr hu.holder hu.queue
    have hushape := hkeeps h.shape
    obtain ⟨hon, hshape⟩ := State.act_onFloor hushape k n
    refine ⟨?_, hshape, fun l => ?_, fun l => ?_, ?_, fun hstill => ?_, fun hfresh => ?_,
      fun htold => ?_, fun f hf hf' => ?_⟩
    · rw [hon, hsame, h.onFloor, List.foldl_append]
      simp [hw]
    · rw [(u.act_latches k n l).1, hu.latches, Bool.or_eq_true, h.latches l]
      by_cases hl : k = latchReqKind l
      · subst hl
        simp [hw, hk]
      · simp [hl, Ne.symm hl]
    · rw [(u.act_latches k n l).2, hu.latches, hu.merges, h.merges l]
      simp only [h.latches l]
      by_cases hl : k = latchReqKind l
      · subst hl
        simp [hw, hk]
      · simp [hl, Ne.symm hl]
    · rw [State.act_sa, hu.sa, h.sa]
      simp [hw]
    · obtain ⟨hholder, hgrant, hqueue⟩ := u.act_still (hstill k (by simp) hw) n
      obtain ⟨hholder', hgrant', hqueue'⟩ := h.still fun j hj => hstill j (by simp [hj])
      exact ⟨hholder.trans (hu.holder.trans hholder'), hgrant.trans (hu.grant.trans hgrant'),
        hqueue.trans (hu.queue.trans hqueue')⟩
    · refine State.act_freshGrant ?_ k n
      rw [State.FreshGrant, hu.grant, hu.holder, hu.ends]
      exact h.fresh hfresh
    · obtain ⟨ht, hflag⟩ := h.told htold
      have hut : u.FloorTold := by
        rw [State.FloorTold, hu.holder, hu.flags _ (by decide)]
        exact ht
      obtain ⟨hact, hset⟩ := State.act_floorTold hushape hut k n
      refine ⟨hact, ?_⟩
      rw [hset, hu.flags _ (by decide), hflag]
      by_cases hk' : k = .floor
      · subst hk'
        simp [hw]
      · simp [hk', Ne.symm hk']
    · rw [State.act_flag _ _ _ hf, hu.flags f hf', h.flags f hf hf']
  · rw [if_neg hw]
    have hoff {l : LatchKind} : latchReqKind l ∈ ks ++ [k] ∧ w.get (latchReqKind l) = true ↔
        latchReqKind l ∈ ks ∧ w.get (latchReqKind l) = true := by
      simp only [List.mem_append, List.mem_singleton]
      refine and_congr_left fun hl => or_iff_left fun e => hw (e ▸ hl)
    refine ⟨?_, h.shape, fun l => ?_, fun l => ?_, ?_, fun hstill => h.still fun j hj =>
      hstill j (by simp [hj]), h.fresh, fun htold => ?_, h.flags⟩
    · rw [h.onFloor, List.foldl_append]
      simp [hw]
    · rw [h.latches l, hoff]
    · rw [h.merges l]
      simp only [← and_assoc, hoff]
    · rw [h.sa]
      simp [hw]
    · obtain ⟨ht, hflag⟩ := h.told htold
      refine ⟨ht, ?_⟩
      rw [hflag]
      by_cases hk' : k = .floor
      · subst hk'
        simp [hw]
      · simp [Ne.symm hk']

theorem State.actAll_visited {s : State} (hs : s.FloorShape) (w : PerKind Bool) (n : Nat) :
    s.Visited w n allKinds (s.actAll w n) :=
  ((((State.visited_nil hs w n).snoc (k := .answer) (by simp) (.refl _)).snoc (k := .hangup)
    (by simp) (.refl _)).snoc (k := .floor) (by simp) (.refl _)).snoc (k := .yield) (by simp) (.refl _)

/-- Toggles recorded first change nothing of what the requests leave. -/
theorem State.seeToggles_visited {s t : State} {m n : Nat} {b : PerKind Bool} {w : PerKind Bool}
    {ks : List ReqKind} (h : (s.seeToggles m b).Visited w n ks t) : s.Visited w n ks t := by
  obtain ⟨hon, hshape, hlatches, hmerges, hsa, hstill, hfresh, htold, hflags⟩ := h
  exact ⟨hon, hshape, hlatches, hmerges, hsa, hstill, hfresh, htold, hflags⟩

/-- A station's FLOOR, and its YIELD taken after it. -/
theorem State.Visited.onFloor_all {s t : State} {w : PerKind Bool} {n : Nat}
    (h : s.Visited w n allKinds t) :
    t.onFloor = (if w.get .yield = true then fun l : List Nat => l.filter (· ≠ n) else id)
      (if w.get .floor = true ∧ n ∉ s.onFloor then s.onFloor ++ [n] else s.onFloor) := by
  rw [h.onFloor]
  by_cases hfloor : w.get .floor = true <;> by_cases hyield : w.get .yield = true <;>
    by_cases hn : n ∈ s.onFloor <;>
    simp [allKinds, floorAfter, hfloor, hyield, hn]

@[simp] theorem State.actAll_rest (s : State) (w : PerKind Bool) (n : Nat) :
    (s.actAll w n).cq.slots = s.cq.slots ∧ (s.actAll w n).cq.view = s.cq.view ∧
    (s.actAll w n).cl.mask = s.cl.mask ∧ (s.actAll w n).cl.outcomes = s.cl.outcomes ∧
    (s.actAll w n).cl.unknownCommands = s.cl.unknownCommands := by
  simp only [State.actAll, allKinds, List.foldl]
  split_ifs <;> simp

/-! ## A header at the ACTIVE bridge -/

/-- The kinds of a header that are new requests of an entry (R151, R152). -/
def Peer.newKinds (p : Peer) (h : SenderState) : PerKind Bool :=
  p.lastSeen.elim h.pending (newRequests · h)

theorem Peer.newKinds_get (p : Peer) (h : SenderState) (k : ReqKind) :
    (p.newKinds h).get k = true ↔ h.pending.get k = true ∧
      ∀ seen, p.lastSeen = some seen → h.toggles.get k ≠ seen.get k := by
  cases hseen : p.lastSeen with
  | none => simp [Peer.newKinds, hseen]
  | some seen => cases k <;> simp [Peer.newKinds, hseen, newRequests, PerKind.get, and_comm]

theorem State.bridgeHeader_of_none {s : State} {n : Nat} (hp : s.peer n = none) (h : SenderState) :
    s.bridgeHeader n h = s := by
  rw [State.bridgeHeader, hp]

theorem State.bridgeHeader_of_peer {s : State} {n : Nat} {p : Peer} (hp : s.peer n = some p)
    (h : SenderState) :
    s.bridgeHeader n h = (s.seeToggles n h.toggles).actAll (p.newKinds h) n := by
  rw [State.bridgeHeader, hp]
  cases hseen : p.lastSeen <;> simp only [Peer.newKinds, hseen] <;> rfl

/-- The entries behind recorded toggles. -/
theorem State.seeToggles_peer (s : State) (n : Nat) (t : PerKind Bool) :
    (s.seeToggles n t).peer n = (s.peer n).map (fun p => { p with lastSeen := some t }) ∧
    ∀ j, j ≠ n → (s.seeToggles n t).peer j = s.peer j :=
  ⟨findPeer_updatePeer_eq (fun p => { p with lastSeen := some t }) (fun _ => rfl) _,
    fun _ hj => findPeer_updatePeer_ne (fun p => { p with lastSeen := some t }) (fun _ => rfl) _ hj⟩

/-- The entries are those of the table. -/
theorem State.peer_congr {s t : State} (h : t.ru.peers = s.ru.peers) (n : Nat) :
    t.peer n = s.peer n := by
  rw [State.peer, State.peer, h]

/-- Settles O51. -/
theorem bridgeTakesNewRequests : Obligations.BridgeTakesNewRequests := by
  intro s n h p _ ⟨hnd, _, hnone, _⟩ hp t isNew
  have ht : t = (s.seeToggles n h.toggles).actAll (p.newKinds h) n := State.bridgeHeader_of_peer hp h
  have hv : s.Visited (p.newKinds h) n allKinds t := by
    rw [ht]
    exact State.seeToggles_visited (State.actAll_visited (s := s.seeToggles n h.toggles) ⟨hnd, hnone⟩
      (p.newKinds h) n)
  have hnew (k : ReqKind) : (p.newKinds h).get k = true ↔ isNew k := p.newKinds_get h k
  have hpeers : t.ru.peers = (s.seeToggles n h.toggles).ru.peers := by
    rw [ht, ((s.seeToggles n h.toggles).actAll_frame _ n).2.2.2.2.1]
  obtain ⟨hsame, hother⟩ := s.seeToggles_peer n h.toggles
  have hfloor := hv.onFloor_all
  have hany : allKinds.any (p.newKinds h).get = true ↔ ∃ k, isNew k := by
    simp [← hnew, mem_allKinds]
  refine ⟨?_, fun j hj => ?_, ?_, fun l => ⟨?_, fun hl hset => ?_, fun hl => ?_⟩, fun hyield => ?_,
    fun hwants hstays => ?_, fun hwants hstays => ?_, fun j hj => ?_, ?_⟩
  · rw [State.peer_congr hpeers, hsame, hp]
    rfl
  · rw [State.peer_congr hpeers, hother j hj]
  · rw [hv.sa, Bool.or_eq_true, hany]
  · rw [hv.latches l, ← hnew]
    simp [mem_allKinds]
  · rw [hv.merges l, if_pos ⟨mem_allKinds _, (hnew _).2 hl, hset⟩]
    rfl
  · rw [hv.merges l, if_neg]
    rintro ⟨_, hk, hset⟩
    rcases hl with hl | hl
    · exact hl ((hnew _).1 hk)
    · simp [hl] at hset
  · rw [hfloor, if_pos ((hnew .yield).2 hyield)]
    simp
  · rw [hfloor, if_neg (mt (hnew .yield).1 hstays)]
    by_cases hn : n ∈ s.onFloor
    · simp [hn]
    · rw [if_pos ⟨(hnew .floor).2 hwants, hn⟩]
      simp
  · obtain ⟨hholder, hgrant, hqueue⟩ := hv.still fun k _ hk => by
      cases k with
      | answer => exact .inl rfl
      | hangup => exact .inr rfl
      | floor => exact absurd ((hnew .floor).1 hk) hwants
      | yield => exact absurd ((hnew .yield).1 hk) hstays
    exact ⟨hholder, hqueue, hgrant⟩
  · rw [hfloor]
    split <;> split <;> simp [hj]
  · rw [ht]
    simp [State.seeToggles]

end Sys2Proof.Machine
end

section
/-! PROOFS. The bridge term's first view of the group (R153) and the settle expiry (R132 to R134). -/

namespace Sys2Proof.Machine

/-! ## Ascending lists of stations -/

theorem mem_insertNat {n m : Nat} {l : List Nat} : m ∈ insertNat n l ↔ m = n ∨ m ∈ l := by
  induction l with
  | nil => simp [insertNat]
  | cons k l ih =>
    unfold insertNat
    split
    · simp
    · simp only [List.mem_cons, ih]
      tauto

theorem pairwise_insertNat {n : Nat} {l : List Nat} (h : l.Pairwise (· < ·)) (hn : n ∉ l) :
    (insertNat n l).Pairwise (· < ·) := by
  induction l with
  | nil => simp [insertNat]
  | cons k l ih =>
    obtain ⟨hk, hl⟩ := List.pairwise_cons.1 h
    have hne : n ≠ k := fun e => hn (by simp [e])
    unfold insertNat
    split
    · next hle =>
      refine List.pairwise_cons.2 ⟨fun m hm => ?_, h⟩
      rcases List.mem_cons.1 hm with rfl | hm
      · omega
      · have := hk m hm
        omega
    · next hle =>
      refine List.pairwise_cons.2 ⟨fun m hm => ?_, ih hl fun hm => hn (by simp [hm])⟩
      rcases mem_insertNat.1 hm with rfl | hm
      · omega
      · exact hk m hm

/-! ## The own slots (R153) -/

/-- Which of the own slots are PENDING. -/
def State.ownAsks (s : State) : PerKind Bool :=
  ⟨(s.cq.slots.get .answer).pending, (s.cq.slots.get .hangup).pending,
    (s.cq.slots.get .floor).pending, (s.cq.slots.get .yield).pending⟩

theorem State.ownAsks_get (s : State) (k : ReqKind) :
    s.ownAsks.get k = (s.cq.slots.get k).pending := by cases k <;> rfl

/-- What the own kinds `ks` leave: acted on as requests, with their slots settled as ACCEPTED. -/
structure State.OwnVisited (s : State) (ks : List ReqKind) (t : State) : Prop where
  visited : s.Visited s.ownAsks s.own ks t
  slot : ∀ k, t.cq.slots.get k = if k ∈ ks then (s.cq.slots.get k).settle else s.cq.slots.get k
  outcome : ∀ k, t.cl.outcomes.get k =
    if k ∈ ks ∧ (s.cq.slots.get k).pending = true then .accepted else s.cl.outcomes.get k
  view : t.cq.view = s.cq.view
  own : t.own = s.own

/-- An own slot settled with ACCEPTED disturbs nothing that acting on the request reads. -/
theorem State.undisturbed_settled (s : State) (k : ReqKind) :
    s.Undisturbed ((s.setSlot k (s.cq.slots.get k).settle).record k .accepted) :=
  ⟨rfl, rfl, rfl, rfl, rfl, rfl, rfl, fun f hf => (State.flag_setFlag _ _ _).trans (by
    rw [decide_eq_false (Ne.symm hf), Bool.or_false]
    rfl)⟩

theorem Slot.settle_of_not_pending {sl : Slot} (h : ¬sl.pending = true) : sl.settle = sl := by
  obtain ⟨toggle, timer, late⟩ := sl
  cases timer with
  | none => rfl
  | some t => exact absurd rfl h

theorem State.OwnVisited.snoc {s t : State} {ks : List ReqKind} (h : s.OwnVisited ks t) {k : ReqKind}
    (hk : k ∉ ks) : s.OwnVisited (ks ++ [k]) (t.ownKind k) := by
  have hslot : t.cq.slots.get k = s.cq.slots.get k := (h.slot k).trans (if_neg hk)
  have houtcome : t.cl.outcomes.get k = s.cl.outcomes.get k :=
    (h.outcome k).trans (if_neg fun ⟨hmem, _⟩ => hk hmem)
  have hkind : t.ownKind k = if s.ownAsks.get k = true then
      ((t.setSlot k (t.cq.slots.get k).settle).record k .accepted).act k s.own else t := by
    rw [State.ownAsks_get, ← hslot, ← h.own]
    rfl
  refine ⟨hkind ▸ h.visited.snoc hk (t.undisturbed_settled k), fun j => ?_, fun j => ?_, ?_, ?_⟩
  · rw [State.ownKind]
    split
    · by_cases hj : j = k
      · subst hj
        simp [hslot]
      · simpa [hj, PerKind.get_set_other _ hj] using h.slot j
    · next hpend =>
      by_cases hj : j = k
      · subst hj
        rw [hslot] at hpend
        simp [hslot, Slot.settle_of_not_pending hpend]
      · simpa [hj] using h.slot j
  · rw [State.ownKind]
    split
    · next hpend =>
      by_cases hj : j = k
      · subst hj
        rw [hslot] at hpend
        simp [hpend]
      · simpa [hj, PerKind.get_set_other _ hj] using h.outcome j
    · next hpend =>
      by_cases hj : j = k
      · subst hj
        rw [hslot] at hpend
        simp [houtcome, hpend]
      · simpa [hj] using h.outcome j
  · rw [← h.view, State.ownKind]
    split
    · simp [State.record, State.setFlag, State.setSlot]
    · rfl
  · rw [← h.own, State.own, State.own, (t.ownKind_frame k).2.2.2.2.2.2.2.2.2.1]

theorem State.ownVisited_ownBaseline {s : State} (hs : s.FloorShape) :
    s.OwnVisited allKinds s.ownBaseline :=
  have start : s.OwnVisited [] s := ⟨State.visited_nil hs _ _, by simp, by simp, rfl, rfl⟩
  (((start.snoc (k := .answer) (by simp)).snoc (k := .hangup) (by simp)).snoc
    (k := .floor) (by simp)).snoc (k := .yield) (by simp)

/-! ## The first view, station by station -/

/-- What a station asks for at the entry into ACTIVE: the own PENDING slots, or the pending kinds of
an entry's last-heard header. -/
def State.firstAsks (s : State) (n : Nat) : PerKind Bool :=
  if n = s.own then s.ownAsks else ((s.peer n).map (·.header.pending)).getD (PerKind.all false)

/-- The table with the last-heard toggles of the stations `ns` as last seen. -/
def State.looked (s : State) (ns : List Nat) : RosterUnit :=
  { s.ru with peers := s.ru.peers.map (fun p =>
    if p.station ∈ ns then { p with lastSeen := some p.header.toggles } else p) }

/-- What a first view of the stations `ns` leaves of an empty floor. -/
structure State.Viewed (s : State) (ns : List Nat) (t : State) : Prop where
  onFloor : t.onFloor =
    ns.filter (fun n => (s.firstAsks n).get .floor && !(s.firstAsks n).get .yield)
  shape : t.FloorShape
  latches : ∀ l, t.cq.latches.get l = true ↔
    s.cq.latches.get l = true ∨ ∃ n ∈ ns, (s.firstAsks n).get (latchReqKind l) = true
  sa : t.sa = { s.sa with
    promptDue := s.sa.promptDue || ns.any (fun n => allKinds.any (s.firstAsks n).get) }
  fresh : t.FreshGrant
  told : t.FloorTold
  change : t.flag .floorChange = true ↔
    s.flag .floorChange = true ∨ ∃ n ∈ ns, (s.firstAsks n).get .floor = true
  flags : ∀ f, f ≠ .floorChange → f ≠ .reqOutcome → t.flag f = s.flag f
  ru : t.ru = s.looked ns
  slot : ∀ k, t.cq.slots.get k =
    if s.own ∈ ns then (s.cq.slots.get k).settle else s.cq.slots.get k
  outcome : ∀ k, t.cl.outcomes.get k =
    if s.own ∈ ns ∧ (s.cq.slots.get k).pending = true then .accepted else s.cl.outcomes.get k
  view : t.cq.view = s.cq.view
  sl : t.sl = s.sl

/-- A station that is not on the floor asks: it joins the back, unless it yields too. -/
theorem State.Visited.onFloor_joins {s t : State} {w : PerKind Bool} {n : Nat}
    (h : s.Visited w n allKinds t) (hn : n ∉ s.onFloor) :
    t.onFloor = s.onFloor ++ if w.get .floor && !w.get .yield then [n] else [] := by
  have hne : ∀ a ∈ s.onFloor, ¬a = n := fun a ha e => hn (e ▸ ha)
  rw [h.onFloor_all]
  cases w.get .floor <;> cases w.get .yield <;> simp +contextual [hn, hne]

/-- The parts of a view that the requests of one more station change. -/
theorem State.Viewed.visit {s t u : State} {ns : List Nat} (h : s.Viewed ns t) {n : Nat}
    (hn : n ∉ ns) (hv : t.Visited (s.firstAsks n) n allKinds u) (hru : u.ru = s.looked (ns ++ [n]))
    (hslot : ∀ k, u.cq.slots.get k =
      if s.own ∈ ns ++ [n] then (s.cq.slots.get k).settle else s.cq.slots.get k)
    (houtcome : ∀ k, u.cl.outcomes.get k =
      if s.own ∈ ns ++ [n] ∧ (s.cq.slots.get k).pending = true then .accepted
      else s.cl.outcomes.get k)
    (hview : u.cq.view = s.cq.view) (hsl : u.sl = s.sl) : s.Viewed (ns ++ [n]) u := by
  have hoff : n ∉ t.onFloor := by
    rw [h.onFloor]
    exact fun hmem => hn (List.mem_filter.1 hmem).1
  obtain ⟨htold, hchange⟩ := hv.told h.told
  refine ⟨?_, hv.shape, fun l => ?_, ?_, hv.fresh h.fresh, htold, ?_, fun f hf hf' => ?_, hru, hslot,
    houtcome, hview, hsl⟩
  · rw [hv.onFloor_joins hoff, h.onFloor, List.filter_append]
    simp [List.filter_cons]
  · rw [hv.latches l, h.latches l]
    simp [mem_allKinds, or_and_right, exists_or, or_assoc]
  · rw [hv.sa, h.sa]
    simp [Bool.or_assoc]
  · rw [hchange, h.change]
    simp [mem_allKinds, or_and_right, exists_or, or_assoc]
  · rw [hv.flags f hf hf', h.flags f hf hf']

/-- A lookup sees a change of the entries that keeps their stations. -/
theorem findPeer_map {f : Peer → Peer} (hf : ∀ p, (f p).station = p.station) (n : Nat)
    (ps : List Peer) : findPeer n (ps.map f) = (findPeer n ps).map f := by
  simp only [findPeer, List.find?_map, Function.comp_def, hf]

theorem State.looked_nil (s : State) : s.looked [] = s.ru := by simp [State.looked]

/-- Recording the toggles of one entry more. -/
theorem updatePeer_looked {ps : List Peer} (hps : ps.Pairwise (fun p q => p.station < q.station))
    {ns : List Nat} {p : Peer} (hp : p ∈ ps) :
    updatePeer p.station (fun q => { q with lastSeen := some p.header.toggles })
      (ps.map (fun p => if p.station ∈ ns then { p with lastSeen := some p.header.toggles } else p)) =
    ps.map (fun q => if q.station ∈ ns ++ [p.station] then
      { q with lastSeen := some q.header.toggles } else q) := by
  rw [updatePeer, List.map_map]
  refine List.map_congr_left fun q hq => ?_
  by_cases hqp : q.station = p.station
  · have : q = p := Option.some_inj.1 ((findPeer_of_mem hps hq).symm.trans
      (hqp ▸ findPeer_of_mem hps hp))
    subst this
    by_cases hmem : q.station ∈ ns <;> simp [hmem]
  · by_cases hmem : q.station ∈ ns <;> simp [hmem, hqp]

/-- One look more: at the own slots, or at an entry that is still as it was. -/
theorem State.Viewed.look {s t : State} {ns : List Nat} (hroster : s.RosterOk) (h : s.Viewed ns t)
    {n : Nat} (hn : n ∉ ns) (hknown : n = s.own ∨ ∃ p ∈ s.ru.peers, p.station = n) :
    s.Viewed (ns ++ [n]) (t.firstLook n) := by
  obtain ⟨_, hsorted, hpeers, _⟩ := hroster
  have hown : t.own = s.own := by rw [State.own, State.own, h.sl]
  by_cases hself : n = s.own
  · subst hself
    have hv := State.ownVisited_ownBaseline h.shape
    have hslot (k : ReqKind) : t.cq.slots.get k = s.cq.slots.get k := (h.slot k).trans (if_neg hn)
    have hasks : t.ownAsks = s.firstAsks s.own := by simp [State.ownAsks, State.firstAsks, hslot]
    have hlook : t.firstLook s.own = t.ownBaseline := if_pos hown.symm
    rw [hlook]
    refine h.visit hn (hasks ▸ hown ▸ hv.visited) ?_ (fun k => ?_) (fun k => ?_)
      (hv.view.trans h.view) ?_
    · rw [(t.ownBaseline_frame).2.2.2.2.1, h.ru, State.looked, State.looked]
      congr 1
      refine List.map_congr_left fun p hp => ?_
      have := (hpeers p hp).2.1
      simp [this]
    · rw [hv.slot, if_pos (mem_allKinds k), hslot, if_pos (by simp)]
    · have hout : t.cl.outcomes.get k = s.cl.outcomes.get k :=
        (h.outcome k).trans (if_neg fun ⟨hmem, _⟩ => hn hmem)
      rw [hv.outcome, hslot, hout]
      simp [mem_allKinds]
    · rw [(t.ownBaseline_frame).2.2.2.2.2.2.2.2.2.1, h.sl]
  · obtain ⟨p, hp, hpn⟩ := hknown.resolve_left hself
    have hfound : s.peer n = some p := by
      rw [← hpn]
      exact findPeer_of_mem hsorted hp
    have hstill : t.peer n = some p := by
      rw [State.peer, h.ru, State.looked, findPeer_map (fun q => by split <;> rfl), ← State.peer, hfound]
      simp [hpn, hn]
    have hlook : t.firstLook n = (t.seeToggles n p.header.toggles).actAll p.header.pending n := by
      rw [State.firstLook, if_neg (hown ▸ hself), hstill]
      rfl
    have hasks : p.header.pending = s.firstAsks n := by
      simp [State.firstAsks, hself, hfound]
    have hv := State.actAll_visited (s := t.seeToggles n p.header.toggles) h.shape p.header.pending n
    have hown' : s.own ∈ ns ++ [n] ↔ s.own ∈ ns := by simp [Ne.symm hself]
    obtain ⟨hslots, hview, _, houtcomes, _⟩ :=
      (t.seeToggles n p.header.toggles).actAll_rest p.header.pending n
    obtain ⟨_, _, _, _, hru, _, _, _, _, hsl, _⟩ :=
      (t.seeToggles n p.header.toggles).actAll_frame p.header.pending n
    rw [hlook]
    refine h.visit hn (hasks ▸ State.seeToggles_visited hv) ?_ (fun k => ?_) (fun k => ?_)
      (hview.trans h.view) (hsl.trans h.sl)
    · have hpeers := updatePeer_looked hsorted (ns := ns) hp
      rw [hru, State.looked, ← hpn, ← hpeers]
      simp only [State.seeToggles, State.mapPeer, h.ru, State.looked]
    · rw [hslots]
      simp only [hown']
      exact h.slot k
    · rw [houtcomes]
      simp only [hown']
      exact h.outcome k

/-- A view is taken station by station, each of them once. -/
theorem State.Viewed.looks {s : State} (hroster : s.RosterOk) (rest : List Nat) :
    ∀ {t : State} {ns : List Nat}, s.Viewed ns t → (ns ++ rest).Nodup →
      (∀ n ∈ rest, n = s.own ∨ ∃ p ∈ s.ru.peers, p.station = n) →
      s.Viewed (ns ++ rest) (rest.foldl State.firstLook t) := by
  induction rest with
  | nil => intro t ns h _ _; simpa using h
  | cons n rest ih =>
    intro t ns h hnd hknown
    have hn : n ∉ ns := fun hmem => (List.nodup_append.1 hnd).2.2 n hmem n (by simp) rfl
    have := ih (h.look hroster hn (hknown n (by simp))) (by simpa using hnd)
      fun m hm => hknown m (by simp [hm])
    simpa using this

/-- The stations of a first view: the own one and the ADMITTED peers, ascending (R153). -/
def State.viewedStations (s : State) : List Nat :=
  insertNat s.own ((s.ru.peers.filter (fun p => p.state = .admitted)).map (·.station))

theorem State.mem_viewedStations {s : State} {n : Nat} :
    n ∈ s.viewedStations ↔ n = s.own ∨ ∃ p ∈ s.ru.peers, p.state = .admitted ∧ p.station = n := by
  simp [State.viewedStations, mem_insertNat, and_assoc]

theorem State.pairwise_viewedStations {s : State} (hroster : s.RosterOk) :
    s.viewedStations.Pairwise (· < ·) := by
  obtain ⟨_, hsorted, hpeers, _⟩ := hroster
  refine pairwise_insertNat (List.pairwise_map.2 (hsorted.filter _)) fun hmem => ?_
  obtain ⟨p, hp, hown⟩ := List.mem_map.1 hmem
  exact (hpeers p (List.mem_filter.1 hp).1).2.1 hown

/-- The first view of a bridge term whose floor is empty (R153). -/
theorem State.viewed_firstView {s : State} (hroster : s.RosterOk) (hholder : s.cq.holder = none)
    (hqueue : s.cq.floorQueue = []) (hgrant : s.cq.grant = none) :
    s.Viewed s.viewedStations s.firstView := by
  have hempty : s.onFloor = [] := by simp [State.onFloor, hholder, hqueue]
  have start : s.Viewed [] s :=
    ⟨hempty, ⟨by rw [hempty]; exact .nil, fun _ => hqueue⟩, by simp, by simp,
      by rw [State.FreshGrant, if_pos hholder, hgrant], fun h => absurd hholder h, by simp,
      fun _ _ _ => rfl, s.looked_nil.symm, by simp, by simp, rfl, rfl⟩
  have hnd : s.viewedStations.Nodup := (State.pairwise_viewedStations hroster).imp Nat.ne_of_lt
  refine start.looks hroster s.viewedStations hnd fun n hn => ?_
  rcases State.mem_viewedStations.1 hn with h | ⟨p, hp, _, h⟩
  · exact .inl h
  · exact .inr ⟨p, hp, h⟩

/-! ## The settle expiry (R132 to R134) -/

theorem exec_settleExpiry_of_none {s : State} (h : s.bu.state ≠ .claiming ∨ s.bu.settle = none) :
    exec .settleExpiry s = .next s := by
  cases hstate : s.bu.state <;> cases hsettle : s.bu.settle <;>
    simp_all [exec, execSettleExpiry]

theorem exec_settleExpiry_of_claiming {s : State} {e : Nat} (h : s.bu.state = .claiming)
    (he : s.bu.settle = some e) :
    exec .settleExpiry s = .next (if s.lowerClaimer then (s.catchUp e).enterYielded
      else (s.catchUp e).enterActive).evaluateFollowed.linkReact := by
  simp only [exec, execSettleExpiry, h, he]
  rfl

/-- The state that the entry into ACTIVE leaves to the first view: the bridge follows itself, with
the downlink queue flushed, the view cleared and the uplink bus at rest (R124, R134, R143). -/
def State.activated (s : State) : State :=
  { s with
    bu := { s.bu with state := .active, settle := none, followed := some s.own }
    cl := { s.cl with flags := s.cl.flags ||| stickyMask .bridgeChange }
    rq := s.rq.flush
    cq := { s.cq with view := none }
    me := { s.me with up := { s.me.up with duck := 1024, limiter := 32768 } } }

theorem State.enterActive_eq {s : State} (h : s.bu.followed ≠ some s.own) :
    s.enterActive = s.activated.firstView := by
  have := State.evaluateFollowed_of_changed
    (s := { s with bu := { s.bu with state := .active, settle := none } }) (Ne.symm h)
  rw [State.enterActive, this]
  rfl

/-- ACTIVE, the bridge follows itself, so that nothing is left to evaluate. -/
theorem State.evaluateFollowed_activated (s : State) :
    s.activated.firstView.evaluateFollowed = s.activated.firstView := by
  have hbu : s.activated.firstView.bu = s.activated.bu := by simp
  have hsl : s.activated.firstView.sl = s.activated.sl := by simp
  refine State.evaluateFollowed_of_same ?_
  rw [State.bridgeInView_of_active (by rw [hbu]; rfl), hbu, State.own, hsl]
  rfl

theorem State.firstAsks_congr {s t : State} (hslots : t.cq.slots = s.cq.slots)
    (hru : t.ru = s.ru) (hsl : t.sl = s.sl) : t.firstAsks = s.firstAsks := by
  funext n
  simp only [State.firstAsks, State.ownAsks, State.peer, State.own, hslots, hru, hsl]

/-- What a station asks for: a PENDING own slot, or a pending kind of an entry. -/
theorem State.firstAsks_iff {s : State} (hroster : s.RosterOk) {n : Nat} (hn : n ∈ s.viewedStations)
    (k : ReqKind) : (s.firstAsks n).get k = true ↔
      (n = s.own ∧ (s.cq.slots.get k).timer.isSome = true) ∨
      ∃ p ∈ s.ru.peers, p.state = .admitted ∧ p.station = n ∧ p.header.pending.get k = true := by
  obtain ⟨_, hsorted, hpeers, _⟩ := hroster
  by_cases hself : n = s.own
  · have hnone : ¬∃ p ∈ s.ru.peers, p.state = .admitted ∧ p.station = n ∧
        p.header.pending.get k = true :=
      fun ⟨p, hp, _, hpn, _⟩ => (hpeers p hp).2.1 (hpn.trans hself)
    rw [or_iff_left hnone, State.firstAsks, if_pos hself, State.ownAsks_get]
    exact (and_iff_right hself).symm
  · obtain ⟨p, hp, hadm, hpn⟩ := (State.mem_viewedStations.1 hn).resolve_left hself
    have hfound : findPeer n s.ru.peers = some p := hpn ▸ findPeer_of_mem hsorted hp
    rw [or_iff_right (fun h => hself h.1), State.firstAsks, if_neg hself, State.peer, hfound]
    refine ⟨fun h => ⟨p, hp, hadm, hpn, h⟩, fun ⟨q, hq, _, hqn, h⟩ => ?_⟩
    have : q = p := Option.some_inj.1 ((hqn ▸ findPeer_of_mem hsorted hq).symm.trans hfound)
    exact this ▸ h

theorem State.exists_firstAsks {s : State} (hroster : s.RosterOk) (k : ReqKind) :
    (∃ n ∈ s.viewedStations, (s.firstAsks n).get k = true) ↔
      (s.cq.slots.get k).timer.isSome = true ∨
      ∃ p ∈ s.ru.peers, p.state = .admitted ∧ p.header.pending.get k = true := by
  constructor
  · rintro ⟨n, hn, hasks⟩
    rcases (State.firstAsks_iff hroster hn k).1 hasks with ⟨_, h⟩ | ⟨p, hp, hadm, _, h⟩
    · exact .inl h
    · exact .inr ⟨p, hp, hadm, h⟩
  · rintro (h | ⟨p, hp, hadm, h⟩)
    · have hn : s.own ∈ s.viewedStations := State.mem_viewedStations.2 (.inl rfl)
      exact ⟨_, hn, (State.firstAsks_iff hroster hn k).2 (.inl ⟨rfl, h⟩)⟩
    · have hn : p.station ∈ s.viewedStations := State.mem_viewedStations.2 (.inr ⟨p, hp, hadm, rfl⟩)
      exact ⟨_, hn, (State.firstAsks_iff hroster hn k).2 (.inr ⟨p, hp, hadm, rfl, h⟩)⟩

/-- Who asks is looked at: the own station, or an ADMITTED one. -/
theorem State.mem_viewedStations_of_asks {s : State} {n : Nat} {k : ReqKind}
    (h : (n = s.own ∧ (s.cq.slots.get k).timer.isSome = true) ∨
      ∃ p ∈ s.ru.peers, p.state = .admitted ∧ p.station = n ∧ p.header.pending.get k = true) :
    n ∈ s.viewedStations := by
  rw [State.mem_viewedStations]
  rcases h with ⟨h, _⟩ | ⟨p, hp, hadm, hpn, _⟩
  · exact .inl h
  · exact .inr ⟨p, hp, hadm, hpn⟩

/-- In the table the stations of the first view are the ADMITTED ones. -/
theorem State.looked_peers {s : State} (hroster : s.RosterOk) :
    (s.looked s.viewedStations).peers = s.ru.peers.map (fun p =>
      if p.state = .admitted then { p with lastSeen := some p.header.toggles } else p) := by
  obtain ⟨_, hsorted, hpeers, _⟩ := hroster
  refine List.map_congr_left fun p hp => ?_
  have hmem : p.station ∈ s.viewedStations ↔ p.state = .admitted := by
    rw [State.mem_viewedStations, or_iff_right (hpeers p hp).2.1]
    refine ⟨fun ⟨q, hq, hadm, hqp⟩ => ?_, fun hadm => ⟨p, hp, hadm, rfl⟩⟩
    have : q = p := Option.some_inj.1 ((findPeer_of_mem hsorted hq).symm.trans
      (hqp ▸ findPeer_of_mem hsorted hp))
    exact this ▸ hadm
  simp only [hmem]

/-- Settles O30. -/
theorem settleExpiryDecidesTheClaim : Obligations.SettleExpiryDecidesTheClaim := by
  intro s
  refine ⟨exec_settleExpiry_of_none, fun e hstate hsettle hfollowed => ⟨fun hlower => ?_,
    fun hlower hroster hterm => ?_⟩⟩
  · rw [exec_settleExpiry_of_claiming hstate hsettle, if_pos hlower, State.enterYielded_eq,
      State.evaluateFollowed_of_same]
    · rfl
    · refine Eq.trans ?_ hfollowed.symm
      rw [State.bridgeInView_of_not_active (s := s) (by simp [hstate])]
      rfl
  · obtain ⟨hidle, _, _⟩ := hterm
    obtain ⟨hholder, hgrant, hqueue, hanswer, hhangup, hseen⟩ := hidle (by simp [hstate])
    have hother : s.bu.followed ≠ some s.own := by
      rw [hfollowed, State.bridgeInView_eq_activePeer (by simp [hstate])]
      exact State.activePeer_ne_own hroster
    have hv := State.viewed_firstView (s := (s.catchUp e).activated) hroster hholder hqueue hgrant
    have hasks (k : ReqKind) : (∃ n ∈ s.viewedStations, (s.firstAsks n).get k = true) ↔ _ :=
      State.exists_firstAsks hroster k
    have hflag (f : Sticky) : (s.catchUp e).activated.flag f =
        (s.flag f || decide (.bridgeChange = f)) := s.flag_setFlag .bridgeChange f
    have hown : s.own ∈ s.viewedStations := State.mem_viewedStations.2 (.inl rfl)
    obtain ⟨hnow, hports, hlp, hcu, hwl, hrq, hme, hbu, hsl, _⟩ :=
      (s.catchUp e).activated.firstView_frame
    refine ⟨(s.catchUp e).activated.firstView, ?_, hnow, hbu, ?_, hrq, hv.view, hme, ?_, fun k => ?_,
      ?_, ?_, ⟨?_, fun n => ?_, hv.shape.2, ?_, ?_⟩, ?_, ?_, hlp, hcu, hwl, hsl, hports⟩
    · rw [exec_settleExpiry_of_claiming hstate hsettle, if_neg (by simp [hlower]),
        State.enterActive_eq (s := s.catchUp e) hother, State.evaluateFollowed_activated]
    · rw [hv.flags _ (by decide) (by decide), hflag]
      simp
    · rw [hv.ru]
      exact State.looked_peers (s := s) hroster
    · refine ⟨(hv.slot k).trans (if_pos hown), (hv.outcome k).trans ?_⟩
      have hkeep : (((s.catchUp e).activated.own ∈ (s.catchUp e).activated.viewedStations) ∧
          ((s.catchUp e).activated.cq.slots.get k).pending = true) ↔
          (s.cq.slots.get k).timer.isSome = true := and_iff_right hown
      simp only [hkeep]
      rfl
    · exact (hv.latches .answer).trans
        ((or_iff_right (Bool.eq_false_iff.1 hanswer)).trans (hasks .answer))
    · exact (hv.latches .hangup).trans
        ((or_iff_right (Bool.eq_false_iff.1 hhangup)).trans (hasks .hangup))
    · rw [hv.onFloor]
      exact (State.pairwise_viewedStations (s := s) hroster).filter _
    · have hmem : n ∈ (s.catchUp e).activated.firstView.onFloor ↔ n ∈ s.viewedStations ∧
          (s.firstAsks n).get .floor = true ∧ ¬(s.firstAsks n).get .yield = true := by
        rw [hv.onFloor, List.mem_filter, Bool.and_eq_true, Bool.not_eq_true', Bool.not_eq_true]
        rfl
      rw [hmem]
      refine ⟨fun ⟨hn, hfloor, hyield⟩ => ⟨(State.firstAsks_iff hroster hn _).1 hfloor,
        mt (State.firstAsks_iff hroster hn _).2 hyield⟩, fun ⟨hfloor, hyield⟩ => ?_⟩
      have hn := State.mem_viewedStations_of_asks hfloor
      exact ⟨hn, (State.firstAsks_iff hroster hn _).2 hfloor,
        mt (State.firstAsks_iff hroster hn _).1 hyield⟩
    · rw [hv.fresh, State.grantEnds_eq, State.cfg, hsl]
      rfl
    · refine hv.change.trans (or_congr (by simp [hflag]) ?_)
      refine ⟨fun ⟨n, hn, h⟩ => ⟨n, (State.firstAsks_iff (s := s) hroster hn _).1 h⟩,
        fun ⟨n, h⟩ => ?_⟩
      have hn := State.mem_viewedStations_of_asks (s := s) h
      exact ⟨n, hn, (State.firstAsks_iff (s := s) hroster hn _).2 h⟩
    · have hprompt : (s.catchUp e).activated.firstView.sa.promptDue = true ↔ s.sa.promptDue = true ∨
          ∃ n ∈ s.viewedStations, ∃ k, (s.firstAsks n).get k = true := by
        rw [hv.sa, Bool.or_eq_true, List.any_eq_true]
        simp only [List.any_eq_true, mem_allKinds, true_and]
        rfl
      have hany : (∃ n ∈ s.viewedStations, ∃ k, (s.firstAsks n).get k = true) ↔
          ∃ k, ∃ n ∈ s.viewedStations, (s.firstAsks n).get k = true :=
        ⟨fun ⟨n, hn, k, h⟩ => ⟨k, n, hn, h⟩, fun ⟨k, n, hn, h⟩ => ⟨n, hn, k, h⟩⟩
      rw [hprompt, hany]
      simp only [hasks, exists_or]
      refine or_congr_right (or_congr_right ⟨fun ⟨k, p, hp, hadm, h⟩ => ⟨p, hp, hadm, k, h⟩,
        fun ⟨p, hp, hadm, k, h⟩ => ⟨k, p, hp, hadm, h⟩⟩)
    · rw [hv.sa]
      rfl

end Sys2Proof.Machine
end

section
/-! PROOFS. What the operations that a hand-on, a notice or a bridge command is made of keep. -/

namespace Sys2Proof.Machine

/-- The flags that a hand-on or a notice can set. -/
def Sticky.handed : Sticky → Bool
  | .bridgeChange | .bridgeYield | .floorChange | .reqOutcome => true
  | .numberClash | .rosterFull | .peerJoined | .peerLost | .peerLeft | .sendDrop | .queueSlide
  | .configFault => false

/-- What role, bridge, floor and requests leave alone, and how they move the rest: entries change in
their last-seen toggles alone, the send queue only loses entries, a prompt PRESENCE stays due, and a
flag that is set stays set. -/
structure State.Keeps (s t : State) : Prop where
  now : t.now = s.now
  ports : t.ports = s.ports
  lp : t.lp = s.lp
  cu : t.cu = s.cu
  sl : t.sl = s.sl
  pending : t.pending = s.pending
  ownMute : t.wl.ownMute = s.wl.ownMute
  callFlag : t.bu.callFlag = s.bu.callFlag
  mask : t.cl.mask = s.cl.mask
  unknown : t.cl.unknownCommands = s.cl.unknownCommands
  toggles : ∀ k, (t.cq.slots.get k).toggle = (s.cq.slots.get k).toggle
  ru : t.ru = { s.ru with peers := t.ru.peers }
  peers : t.ru.peers.map Peer.unseen = s.ru.peers.map Peer.unseen
  sa : t.sa = { s.sa with queue := t.sa.queue, promptDue := t.sa.promptDue }
  prompt : s.sa.promptDue = true → t.sa.promptDue = true
  queue : t.sa.queue.Sublist s.sa.queue
  flags : ∀ f, s.flag f = true → t.flag f = true
  others : ∀ f, f.handed = false → t.flag f = s.flag f

namespace State.Keeps

theorem refl (s : State) : s.Keeps s :=
  ⟨rfl, rfl, rfl, rfl, rfl, rfl, rfl, rfl, rfl, rfl, fun _ => rfl, rfl, rfl, rfl, id, .refl _,
    fun _ => id, fun _ _ => rfl⟩

theorem trans {s t u : State} (h : s.Keeps t) (h' : t.Keeps u) : s.Keeps u where
  now := h'.now.trans h.now
  ports := h'.ports.trans h.ports
  lp := h'.lp.trans h.lp
  cu := h'.cu.trans h.cu
  sl := h'.sl.trans h.sl
  pending := h'.pending.trans h.pending
  ownMute := h'.ownMute.trans h.ownMute
  callFlag := h'.callFlag.trans h.callFlag
  mask := h'.mask.trans h.mask
  unknown := h'.unknown.trans h.unknown
  toggles k := (h'.toggles k).trans (h.toggles k)
  ru := by
    rw [h'.ru, h.ru]
  peers := h'.peers.trans h.peers
  sa := by
    rw [h'.sa, h.sa]
  prompt hp := h'.prompt (h.prompt hp)
  queue := h'.queue.trans h.queue
  flags f hf := h'.flags f (h.flags f hf)
  others f hf := (h'.others f hf).trans (h.others f hf)

/-! ## The plain updates -/

section
variable (s : State)

theorem setFlag {f : Sticky} (hf : f.handed = true := by rfl) : s.Keeps (s.setFlag f) :=
  { refl s with
    flags := fun g hg => by rw [State.flag_setFlag, hg, Bool.true_or]
    others := fun g hg => by
      have : f ≠ g := fun e => by simp [e, hg] at hf
      rw [State.flag_setFlag, decide_eq_false this, Bool.or_false] }

theorem setFlagIf (c : Bool) {f : Sticky} (hf : f.handed = true := by rfl) : s.Keeps (s.setFlagIf c f) := by
  unfold State.setFlagIf
  split
  · exact setFlag s hf
  · exact refl s

theorem of_wl {w : WearerLogic} (h : w.ownMute = s.wl.ownMute := by rfl) : s.Keeps { s with wl := w } :=
  { refl s with ownMute := h }

theorem of_bu {b : BridgeUnit} (h : b.callFlag = s.bu.callFlag := by rfl) : s.Keeps { s with bu := b } :=
  { refl s with callFlag := h }

theorem of_rq (d : Downlink) : s.Keeps { s with rq := d } := { refl s with }

theorem of_me (m : MixEngine) : s.Keeps { s with me := m } := { refl s with }

theorem of_cq {c : CallRequest}
    (h : ∀ k, (c.slots.get k).toggle = (s.cq.slots.get k).toggle := by exact fun _ => rfl) :
    s.Keeps { s with cq := c } :=
  { refl s with toggles := h }

theorem of_cl {c : ControlLine} (hflags : c.flags = s.cl.flags := by rfl)
    (hmask : c.mask = s.cl.mask := by rfl)
    (hunknown : c.unknownCommands = s.cl.unknownCommands := by rfl) : s.Keeps { s with cl := c } :=
  { refl s with
    mask := hmask, unknown := hunknown
    flags := fun f hf => (State.flag_congr (t := { s with cl := c }) hflags f).trans hf
    others := fun f _ => State.flag_congr (t := { s with cl := c }) hflags f }

theorem of_queue {q : List SendEntry} (h : q.Sublist s.sa.queue) :
    s.Keeps { s with sa := { s.sa with queue := q } } :=
  { refl s with queue := h, sa := rfl, prompt := id }

theorem of_peers {ps : List Peer} (h : ps.map Peer.unseen = s.ru.peers.map Peer.unseen) :
    s.Keeps { s with ru := { s.ru with peers := ps } } :=
  { refl s with peers := h, ru := rfl }

theorem askPresence : s.Keeps s.askPresence := { refl s with sa := rfl, prompt := fun _ => rfl }

/-! ## Role and bridge -/

theorem takeLead : s.Keeps s.takeLead := by
  unfold State.takeLead
  split
  · exact of_wl s
  · exact refl s

theorem stepDownEffect : s.Keeps s.stepDownEffect := by
  unfold State.stepDownEffect
  split
  · refine trans (t := { s with wl := { s.wl with role := .standby, stepDown := false } })
      (of_wl s) ?_
    dsimp only
    split
    · exact takeLead _
    · exact refl _
  · exact refl s

theorem evaluateRole : s.Keeps s.evaluateRole := by
  unfold State.evaluateRole
  split
  · exact takeLead s
  · split
    · exact (of_wl s).trans (stepDownEffect _)
    · exact refl s

theorem mateEvent (isMate : Bool) : s.Keeps (s.mateEvent isMate) := by
  unfold State.mateEvent
  split
  · exact evaluateRole s
  · exact refl s

theorem evaluateFollowed : s.Keeps s.evaluateFollowed := by
  unfold State.evaluateFollowed
  split
  · exact refl s
  · exact (of_bu s).trans ((setFlag _).trans ((of_rq _ _).trans (of_cq _)))

theorem enterYielded : s.Keeps s.enterYielded := (of_bu s).trans (setFlag _)

theorem enterClaiming : s.Keeps s.enterClaiming := by
  unfold State.enterClaiming
  refine trans (t := { s with bu := { s.bu with
    state := .claiming, settle := some (s.now + settleTime) } }) (of_bu s) ?_
  dsimp only
  split
  · exact enterYielded _
  · exact refl _

theorem record (k : ReqKind) (o : ReqOutcome) : s.Keeps (s.record k o) :=
  (of_cl s).trans (setFlag _)

theorem dropLatch (k : LatchKind) : s.Keeps (s.dropLatch k) := by
  unfold State.dropLatch
  split
  · exact (of_cq s).trans (record _ _ _)
  · exact refl s

theorem endTerm : s.Keeps s.endTerm := by
  refine (setFlagIf s _).trans ((of_cq _).trans ((dropLatch _ .answer).trans
    ((dropLatch _ .hangup).trans (of_peers _ ?_))))
  rw [List.map_map]
  rfl

theorem leaveActive : s.Keeps s.leaveActive :=
  (of_queue s List.filter_sublist).trans (endTerm _)

theorem enterOff : s.Keeps s.enterOff := by
  unfold State.enterOff
  refine trans (t := if s.bu.state = .active then s.leaveActive else s) ?_ (of_bu _)
  split
  · exact leaveActive s
  · exact refl s

theorem evaluateState : s.Keeps s.evaluateState := by
  unfold State.evaluateState
  split
  · exact refl s
  · split
    · exact enterYielded s
    · exact refl s
  · split
    · exact (leaveActive s).trans (enterYielded _)
    · exact refl s
  · split
    · exact refl s
    · exact enterClaiming s

theorem evaluateBridge : s.Keeps s.evaluateBridge := (evaluateState s).trans (evaluateFollowed _)

/-! ## Floor, latches and requests -/

theorem endGrant : s.Keeps s.endGrant := by
  unfold State.endGrant
  split <;> exact (of_cq s).trans (setFlag _)

theorem requestFloor (n : Nat) : s.Keeps (s.requestFloor n) := by
  unfold State.requestFloor
  split_ifs
  · exact of_cq s
  · exact refl s
  · exact of_cq s
  · exact (of_cq s).trans (setFlag _)

theorem leaveFloor (n : Nat) : s.Keeps (s.leaveFloor n) := by
  unfold State.leaveFloor
  split
  · exact endGrant s
  · exact of_cq s

theorem floorNotice (n : Nat) : s.Keeps (s.floorNotice n) := by
  unfold State.floorNotice
  split
  · exact leaveFloor s n
  · exact refl s

theorem formRequest (k : LatchKind) : s.Keeps (s.formRequest k) := by
  unfold State.formRequest State.pushReport
  split
  · exact of_cl s
  · split <;> exact of_cl s

theorem setLatch (k : LatchKind) : s.Keeps (s.setLatch k) := by
  unfold State.setLatch
  split
  · exact of_cq s
  · exact (of_cq s).trans (formRequest _ k)

theorem act (k : ReqKind) (n : Nat) : s.Keeps (s.act k n) := by
  cases k with
  | answer => exact (setLatch s .answer).trans (askPresence _)
  | hangup => exact (setLatch s .hangup).trans (askPresence _)
  | floor => exact (requestFloor s n).trans (askPresence _)
  | yield => exact (leaveFloor s n).trans (askPresence _)

theorem actAll (w : PerKind Bool) (n : Nat) : s.Keeps (s.actAll w n) := by
  have kind (t : State) (k : ReqKind) : t.Keeps (if w.get k then t.act k n else t) := by
    split
    · exact act t k n
    · exact refl t
  exact (kind _ .answer).trans ((kind _ .hangup).trans ((kind _ .floor).trans (kind _ .yield)))

theorem seeToggles (n : Nat) (t : PerKind Bool) : s.Keeps (s.seeToggles n t) := by
  refine of_peers s ?_
  rw [updatePeer, List.map_map]
  refine List.map_congr_left fun p _ => ?_
  rw [Function.comp_apply]
  split <;> rfl

theorem baseline (n : Nat) (h : SenderState) : s.Keeps (s.baseline n h) :=
  (seeToggles s n _).trans (actAll _ _ n)

theorem bridgeHeader (n : Nat) (h : SenderState) : s.Keeps (s.bridgeHeader n h) := by
  unfold State.bridgeHeader
  split
  · exact refl s
  · split
    · exact baseline s n h
    · exact (seeToggles s n _).trans (actAll _ _ n)

/-- A slot replaced by one of the same toggle. -/
theorem setSlot {k : ReqKind} {sl : Slot}
    (h : sl.toggle = (s.cq.slots.get k).toggle := by rfl) :
    s.Keeps (s.setSlot k sl) := by
  refine of_cq s fun j => ?_
  by_cases hj : j = k
  · subst hj
    rw [PerKind.get_set_same, h]
  · rw [PerKind.get_set_other _ hj]

theorem echoKind (k : ReqKind) (b : Bool) : s.Keeps (s.echoKind k b) := by
  unfold State.echoKind
  dsimp only
  split
  · split
    · exact (setSlot s).trans (record _ _ _)
    · split
      · exact (setSlot s).trans (record _ _ _)
      · exact refl s
  · exact refl s

theorem takeEcho (t : PerKind Bool) : s.Keeps (s.takeEcho t) :=
  (echoKind s .answer _).trans ((echoKind _ .hangup _).trans ((echoKind _ .floor _).trans
    (echoKind _ .yield _)))

theorem takeExtras (n : Nat) (x : Extras) : s.Keeps (s.takeExtras n x) := by
  by_cases h : s.bu.followed = some n
  · rw [State.takeExtras_of_followed h]
    cases x.echoes.find? (fun e => e.station = s.own) with
    | none => exact of_cq s
    | some e => exact (takeEcho s _).trans (of_cq _)
  · rw [State.takeExtras_of_other h]
    exact refl s

/-! ## Hand-on, notice and the first view -/

theorem requestHeader (n : Nat) (h : SenderState) (x : Option Extras) :
    s.Keeps (s.requestHeader n h x) := by
  have header : s.Keeps (if s.bu.state = .active then s.bridgeHeader n h else s) := by
    split
    · exact bridgeHeader s n h
    · exact refl s
  cases x with
  | none => exact header
  | some x => exact header.trans (takeExtras _ n x)

theorem handHeader (f : Frame) (wasMate : Bool) : s.Keeps (s.handHeader f wasMate) :=
  (mateEvent s _).trans ((evaluateBridge _).trans (requestHeader _ _ _ _))

theorem notice (n : Nat) (isMate : Bool) : s.Keeps (s.notice n isMate) :=
  (mateEvent s _).trans ((evaluateBridge _).trans (floorNotice _ n))

theorem ownKind (k : ReqKind) : s.Keeps (s.ownKind k) := by
  unfold State.ownKind
  dsimp only
  split
  · exact (setSlot s).trans ((record _ _ _).trans (act _ _ _))
  · exact refl s

theorem ownBaseline : s.Keeps s.ownBaseline :=
  (ownKind s .answer).trans ((ownKind _ .hangup).trans ((ownKind _ .floor).trans (ownKind _ .yield)))

theorem firstLook (n : Nat) : s.Keeps (s.firstLook n) := by
  unfold State.firstLook
  split
  · exact ownBaseline s
  · split
    · exact baseline s n _
    · exact refl s

theorem firstView : s.Keeps s.firstView := by
  have fold (l : List Nat) : ∀ t : State, t.Keeps (l.foldl State.firstLook t) := by
    induction l with
    | nil => exact refl
    | cons n l ih => exact fun t => (firstLook t n).trans (ih _)
  exact fold _ s

theorem enterActive : s.Keeps s.enterActive :=
  (of_bu s).trans ((evaluateFollowed _).trans ((of_me _ _).trans (firstView _)))

end

theorem rest_of_ru {s t : State} (h : s.Keeps t) :
    t.ru.departed = s.ru.departed ∧ t.ru.window = s.ru.window ∧
    t.ru.rosterFull = s.ru.rosterFull ∧ t.ru.codeMismatch = s.ru.codeMismatch :=
  ⟨by rw [h.ru], by rw [h.ru], by rw [h.ru], by rw [h.ru]⟩

/-- Every entry stays but for its last-seen toggles. -/
theorem peer {s t : State} (h : s.Keeps t) (n : Nat) :
    (t.peer n).map Peer.unseen = (s.peer n).map Peer.unseen := by
  have unseen (ps : List Peer) := findPeer_map (f := Peer.unseen) (fun _ => rfl) n ps
  rw [State.peer, State.peer, ← unseen, ← unseen, h.peers]

theorem peer_eq_none {s t : State} (h : s.Keeps t) {n : Nat} (hn : s.peer n = none) :
    t.peer n = none := by
  have := h.peer n
  rwa [hn, Option.map_none, Option.map_eq_none_iff] at this

theorem peer_eq_some {s t : State} (h : s.Keeps t) {n : Nat} {p : Peer} (hn : s.peer n = some p) :
    ∃ q, t.peer n = some q ∧ q.unseen = p.unseen := by
  have := h.peer n
  rw [hn, Option.map_some, Option.map_eq_some_iff] at this
  exact this

end State.Keeps

end Sys2Proof.Machine
end

section
/-! PROOFS. The timers of peers and of departed stations (sections 2.7 and 2.8). -/

namespace Sys2Proof.Machine

/-! ## The floor behind an evaluation of the bridge and behind a notice (R38, R162, R164) -/

theorem State.FloorShape.of_vacant {s : State} (hh : s.cq.holder = none) (hq : s.cq.floorQueue = []) :
    s.FloorShape := by
  refine ⟨?_, fun _ => hq⟩
  rw [State.onFloor, hh, hq]
  exact .nil

theorem State.endTerm_floor (s : State) :
    s.endTerm.cq.holder = none ∧ s.endTerm.cq.floorQueue = [] ∧ s.endTerm.cq.grant = none := by
  have drop (t : State) (k : LatchKind) : (t.dropLatch k).cq.holder = t.cq.holder ∧
      (t.dropLatch k).cq.floorQueue = t.cq.floorQueue ∧ (t.dropLatch k).cq.grant = t.cq.grant := by
    unfold State.dropLatch
    split <;> exact ⟨rfl, rfl, rfl⟩
  refine ⟨?_, ?_, ?_⟩ <;> simp only [State.endTerm, drop]

/-- An evaluation of the bridge leaves the floor as it is, or empty. -/
theorem State.evaluateBridge_floorShape {s : State} (hs : s.FloorShape) :
    s.evaluateBridge.FloorShape := by
  have same {t : State} (h : t.cq = s.cq) : t.FloorShape :=
    (State.onFloor_congr (s := s) (by rw [h]) (by rw [h])).2 hs
  have hstate : s.evaluateState.FloorShape := by
    unfold State.evaluateState
    split
    · exact hs
    · split
      · exact same (by simp)
      · exact hs
    · split
      · obtain ⟨hh, hq, _⟩ := s.removeCalls.endTerm_floor
        exact .of_vacant (by simpa [State.leaveActive] using hh) (by simpa [State.leaveActive] using hq)
      · exact hs
    · split
      · exact hs
      · exact same (by simp)
  rw [State.evaluateBridge, State.evaluateFollowed_eq]
  exact hstate

theorem State.notice_eq_leaveFloor {s : State} {n : Nat} {isMate : Bool}
    (h : (s.notice n isMate).bu.state = .active) :
    s.notice n isMate = (s.mateEvent isMate).evaluateBridge.leaveFloor n := by
  simp only [State.notice, State.floorNotice_frame] at h
  rw [State.notice, State.floorNotice, if_pos h]

/-- At an ACTIVE bridge the station of a notice is off the floor (R162). -/
theorem State.notice_off_floor {s : State} (hs : s.FloorShape) {n : Nat} {isMate : Bool}
    (h : (s.notice n isMate).bu.state = .active) : n ∉ (s.notice n isMate).onFloor := by
  have hjudged : (s.mateEvent isMate).FloorShape :=
    (State.onFloor_congr (s := s) (by simp) (by simp)).2 hs
  obtain ⟨hon, _⟩ := State.leaveFloor_onFloor (State.evaluateBridge_floorShape hjudged) n
  rw [State.notice_eq_leaveFloor h, hon]
  simp

/-! ## Lookups behind a removal -/

theorem findPeer_erasePeer_ne {n j : Nat} (h : j ≠ n) (ps : List Peer) :
    findPeer j (erasePeer n ps) = findPeer j ps := by
  rw [findPeer, erasePeer, List.find?_filter, findPeer]
  congr 1
  funext p
  by_cases hp : p.station = j
  · simp [hp, h]
  · simp [hp]

theorem State.isMate_of_seen (s : State) {p : Peer} (h : p.seen = true) :
    s.isMate p = decide (p.wearer = s.cfg.wearer) := by
  rw [State.isMate, h, Bool.true_and]

theorem Peer.seen_of_not_hailed {p : Peer} (h : p.state ≠ .hailed) : p.seen = true :=
  decide_eq_true h

theorem Peer.not_seen_of_hailed {p : Peer} (h : p.state = .hailed) : p.seen = false :=
  decide_eq_false (not_not.2 h)

/-! ## The removal of an entry (R38) -/

theorem State.removePeer_of_seen {s : State} {p : Peer} (h : p.state ≠ .hailed) :
    s.removePeer p = State.noticeTaken
      { s with ru := { s.ru with peers := erasePeer p.station s.ru.peers } }
      p.station (p.wearer = s.cfg.wearer) := by
  have hseen := Peer.seen_of_not_hailed h
  rw [State.removePeer, if_pos hseen]
  exact State.notice_eq _ _ _ _ (s.isMate_of_seen hseen)

theorem State.removePeer_of_hailed {s : State} {p : Peer} (h : p.state = .hailed) :
    s.removePeer p = { s with ru := { s.ru with peers := erasePeer p.station s.ru.peers } } := by
  rw [State.removePeer, if_neg (by simp [Peer.not_seen_of_hailed h])]

/-- A notice taken keeps what role, bridge and floor keep. -/
theorem State.keeps_noticeTaken (s : State) (n : Nat) (mate : Prop) [Decidable mate] :
    s.Keeps (s.noticeTaken n mate) := by
  rw [← State.notice_eq s n (decide mate) mate rfl]
  exact .notice s n _

theorem State.noticeTaken_me (s : State) (n : Nat) (mate : Prop) [Decidable mate] :
    (s.noticeTaken n mate).me = s.me := by
  rw [← State.notice_eq s n (decide mate) mate rfl]
  simp

theorem State.noticeTaken_off_floor {s : State} (hs : s.FloorShape) {n : Nat} {mate : Prop}
    [Decidable mate] (h : (s.noticeTaken n mate).bu.state = .active) :
    n ∉ (s.noticeTaken n mate).onFloor := by
  rw [← State.notice_eq s n (decide mate) mate rfl] at h ⊢
  exact State.notice_off_floor hs h

/-! ## The commands -/

section
variable {s : State} {n : Nat} {p : Peer}

theorem exec_peerLossExpiry_of_admitted (hp : s.peer n = some p) (h : p.state = .admitted) :
    exec (.peerLossExpiry n) s = .next (State.noticeTaken { s with
      now := max s.now (p.lastHeard + 30000)
      ru := { s.ru with peers := updatePeer n (fun q => { q with
        state := .lost, lostAt := some (max s.now (p.lastHeard + 30000)) }) s.ru.peers }
      cl := { s.cl with flags := s.cl.flags ||| BitVec.twoPow 12 3 } }
      n (p.wearer = s.cfg.wearer)) := by
  have hseen : p.seen = true := Peer.seen_of_not_hailed (by simp [h])
  simp only [exec, execPeerLossExpiry, hp, h, if_true]
  rw [State.notice_eq _ _ _ (p.wearer = s.cfg.wearer) (s.isMate_of_seen hseen)]
  rfl

theorem exec_peerLossExpiry_of_other (h : ∀ p, s.peer n = some p → p.state ≠ .admitted) :
    exec (.peerLossExpiry n) s = .next s := by
  cases hp : s.peer n with
  | none => simp only [exec, execPeerLossExpiry, hp]
  | some p => simp only [exec, execPeerLossExpiry, hp, if_neg (h p hp)]

theorem exec_lostRemovalExpiry_of_lost {l : Nat} (hp : s.peer n = some p) (h : p.state = .lost)
    (hl : p.lostAt = some l) :
    exec (.lostRemovalExpiry n) s = .next ((s.catchUp (l + 500000)).removePeer p) := by
  simp only [exec, execLostRemovalExpiry, hp, h, hl]
  rfl

theorem exec_lostRemovalExpiry_of_other (h : ∀ p, s.peer n = some p → p.state ≠ .lost) :
    exec (.lostRemovalExpiry n) s = .next s := by
  cases hp : s.peer n with
  | none => simp only [exec, execLostRemovalExpiry, hp]
  | some p =>
    cases hstate : p.state with
    | lost => exact absurd hstate (h p hp)
    | hailed => simp only [exec, execLostRemovalExpiry, hp, hstate]
    | admitted => simp only [exec, execLostRemovalExpiry, hp, hstate]

theorem exec_hailedExpiry_of_hailed (hp : s.peer n = some p) (h : p.state = .hailed) :
    exec (.hailedExpiry n) s = .next ((s.catchUp (p.lastHeard + 100000)).removePeer p) := by
  simp only [exec, execHailedExpiry, hp, h, if_true]
  rfl

theorem exec_hailedExpiry_of_other (h : ∀ p, s.peer n = some p → p.state ≠ .hailed) :
    exec (.hailedExpiry n) s = .next s := by
  cases hp : s.peer n with
  | none => simp only [exec, execHailedExpiry, hp]
  | some p => simp only [exec, execHailedExpiry, hp, if_neg (h p hp)]

theorem exec_departedHoldExpiry_of_some {d : Departed}
    (hd : s.ru.departed.find? (fun d => d.station = n) = some d) :
    exec (.departedHoldExpiry n) s = .next ((s.catchUp d.timer).undepart n) := by
  simp only [exec, execDepartedHoldExpiry, hd]

theorem exec_departedHoldExpiry_of_none
    (hd : s.ru.departed.find? (fun d => d.station = n) = none) :
    exec (.departedHoldExpiry n) s = .next s := by
  simp only [exec, execDepartedHoldExpiry, hd]

end

/-- In a list of distinct stations the one found is the one held. -/
theorem find?_departed {ds : List Departed} (h : ds.Pairwise (fun d e => d.station ≠ e.station))
    {d : Departed} (hd : d ∈ ds) : ds.find? (fun e => e.station = d.station) = some d := by
  induction ds with
  | nil => simp at hd
  | cons e ds ih =>
    obtain ⟨hne, hds⟩ := List.pairwise_cons.1 h
    rcases List.mem_cons.1 hd with rfl | hd
    · simp
    · simpa [hne d hd] using ih hds hd

/-- Settles O22. -/
theorem peerTimersExpire : Obligations.PeerTimersExpire := by
  intro s n hroster
  have shape (h : s.FloorOk) : s.FloorShape := ⟨h.1, h.2.2.1⟩
  refine ⟨fun p hp hadm => ?_, fun p l hp hlost hl => ?_, fun p hp hhailed => ?_, fun d hd hdn => ?_,
    exec_peerLossExpiry_of_other, exec_lostRemovalExpiry_of_other, exec_hailedExpiry_of_other,
    fun h => exec_departedHoldExpiry_of_none (List.find?_eq_none.2 fun d hd => by simpa using h d hd)⟩
  · set r : State := { s with
      now := max s.now (p.lastHeard + 30000)
      ru := { s.ru with peers := updatePeer n (fun q => { q with
        state := .lost, lostAt := some (max s.now (p.lastHeard + 30000)) }) s.ru.peers }
      cl := { s.cl with flags := s.cl.flags ||| BitVec.twoPow 12 3 } } with hr
    have hkeeps := r.keeps_noticeTaken n (p.wearer = s.cfg.wearer)
    have hrn : r.peer n = some { p with
        state := .lost, lostAt := some (max s.now (p.lastHeard + 30000)) } := by
      have := findPeer_updatePeer_eq (n := n) (fun q : Peer => { q with
        state := .lost, lostAt := some (max s.now (p.lastHeard + 30000)) }) (fun _ => rfl) s.ru.peers
      rw [← State.peer, hp] at this
      exact this
    obtain ⟨q, hq, hqu⟩ := hkeeps.peer_eq_some hrn
    have hflag : r.flag .peerLost = true := by
      rw [show r.flag .peerLost = (s.setFlag .peerLost).flag .peerLost from rfl, State.flag_setFlag]
      simp
    refine ⟨_, q, exec_peerLossExpiry_of_admitted hp hadm, hkeeps.now, hq, ?_, hkeeps.flags _ hflag,
      fun hactive hfloor => ?_, fun j hj => ?_, ?_, hkeeps.cu, ?_, hkeeps.sl, ?_⟩
    · rw [hqu, hkeeps.now]
      rfl
    · exact State.noticeTaken_off_floor (s := r) (shape hfloor) hactive
    · rw [hkeeps.peer]
      exact congrArg _ (findPeer_updatePeer_ne (fun q : Peer => { q with
        state := .lost, lostAt := some (max s.now (p.lastHeard + 30000)) }) (fun _ => rfl) _ hj)
    · rw [hkeeps.ru]
    · exact r.noticeTaken_me _ _
    · rw [hkeeps.now]
  · have hstation := (findPeer_some hp).2
    set r : State := { s with
      now := max s.now (l + 500000)
      ru := { s.ru with peers := erasePeer n s.ru.peers } } with hr
    have hkeeps := r.keeps_noticeTaken n (p.wearer = s.cfg.wearer)
    have hexec : exec (.lostRemovalExpiry n) s = .next (r.noticeTaken n (p.wearer = s.cfg.wearer)) := by
      rw [exec_lostRemovalExpiry_of_lost hp hlost hl,
        State.removePeer_of_seen (by simp [hlost]), hstation]
      rfl
    refine ⟨_, hexec, hkeeps.now, hkeeps.peer_eq_none (findPeer_erasePeer_eq _ _),
      fun hactive hfloor => ?_, fun j hj => ?_, ?_, ?_, ?_, hkeeps.cu, ?_, hkeeps.sl, ?_⟩
    · exact State.noticeTaken_off_floor (s := r) (shape hfloor) hactive
    · rw [hkeeps.peer]
      exact congrArg _ (findPeer_erasePeer_ne hj _)
    · exact hkeeps.others _ rfl
    · exact hkeeps.others _ rfl
    · rw [hkeeps.ru]
    · exact r.noticeTaken_me _ _
    · rw [hkeeps.now]
      rfl
  · rw [exec_hailedExpiry_of_hailed hp hhailed, State.removePeer_of_hailed hhailed,
      (findPeer_some hp).2]
    rfl
  · obtain ⟨_, _, _, _, hdeparted, _⟩ := hroster
    subst hdn
    rw [exec_departedHoldExpiry_of_some (find?_departed hdeparted hd)]
    rfl

end Sys2Proof.Machine
end

section
/-! PROOFS. A LEAVE frame, and arrivals that bring nobody in (chapter 2). -/

namespace Sys2Proof.Machine

/-! ## A LEAVE frame (R39, R40) -/

/-- The departed list with a station as its newest (R40). -/
def State.departedWith (s : State) (n : Nat) : List Departed :=
  (if 4 ≤ (s.ru.departed.filter (fun d => d.station ≠ n)).length
    then (s.ru.departed.filter (fun d => d.station ≠ n)).drop 1
    else s.ru.departed.filter (fun d => d.station ≠ n)) ++ [⟨n, s.now + 1000000⟩]

theorem State.depart_eq (s : State) (n : Nat) :
    s.depart n = { s with ru := { s.ru with departed := s.departedWith n } } := rfl

/-- The table without the entry of a station. -/
def State.without (s : State) (n : Nat) : State :=
  { s with ru := { s.ru with peers := s.ru.peers.filter (fun q => q.station ≠ n) } }

theorem State.leaveFrame_of_seen {s : State} {n : Nat} {p : Peer} (hp : s.peer n = some p)
    (h : p.state ≠ .hailed) :
    s.leaveFrame n =
      (let u := (s.without n).noticeTaken n (p.wearer = s.cfg.wearer)
       { u with
         ru := { u.ru with departed := s.departedWith n }
         cl := { u.cl with flags := u.cl.flags ||| BitVec.twoPow 12 4 } }) := by
  have hkeeps := (s.without n).keeps_noticeTaken n (p.wearer = s.cfg.wearer)
  have hremoved : s.removePeer p = (s.without n).noticeTaken n (p.wearer = s.cfg.wearer) := by
    rw [State.removePeer_of_seen h, (findPeer_some hp).2]
    rfl
  have hdeparted : State.departedWith (State.setFlag ((s.without n).noticeTaken n
      (p.wearer = s.cfg.wearer)) .peerLeft) n = s.departedWith n := by
    simp only [State.departedWith, State.setFlag_frame, hkeeps.now, hkeeps.rest_of_ru.1]
    rfl
  simp only [State.leaveFrame, hp, hremoved, Peer.seen_of_not_hailed h, State.setFlagIf, if_true,
    State.depart_eq, hdeparted]
  rfl

theorem State.leaveFrame_of_unseen {s : State} {n : Nat}
    (h : ∀ p, s.peer n = some p → p.state = .hailed) :
    s.leaveFrame n = { s.without n with
      ru := { (s.without n).ru with departed := s.departedWith n } } := by
  cases hp : s.peer n with
  | none =>
    have hall : s.ru.peers.filter (fun q => q.station ≠ n) = s.ru.peers :=
      List.filter_eq_self.2 fun q hq => decide_eq_true (findPeer_none.1 hp q hq)
    simp only [State.leaveFrame, hp, State.depart_eq, State.without, hall]
  | some p =>
    have hhailed := h p hp
    simp only [State.leaveFrame, hp, State.removePeer_of_hailed hhailed,
      Peer.not_seen_of_hailed hhailed, State.setFlagIf, (findPeer_some hp).2]
    rfl

theorem State.takeArrival_of_leave {s : State} {f : Frame} (h : f.header.kind = .leave) :
    s.takeArrival f = s.leaveFrame f.header.station := if_pos h

/-- What a LEAVE frame keeps and changes, the sender known or not. -/
theorem State.leaveFrame_spec (s : State) (n : Nat) :
    (s.leaveFrame n).peer n = none ∧
    (∀ j, j ≠ n → ((s.leaveFrame n).peer j).map Peer.unseen = (s.peer j).map Peer.unseen) ∧
    (s.leaveFrame n).ru.departed = s.departedWith n ∧
    (s.leaveFrame n).ru.window = s.ru.window ∧
    (s.leaveFrame n).ru.rosterFull = s.ru.rosterFull ∧
    ((s.leaveFrame n).flag .peerLeft = true ↔ s.flag .peerLeft = true ∨
      ∃ p, s.peer n = some p ∧ p.state ≠ .hailed) := by
  have hnone : (s.without n).peer n = none := findPeer_erasePeer_eq n _
  have hother (j : Nat) (hj : j ≠ n) : (s.without n).peer j = s.peer j := findPeer_erasePeer_ne hj _
  by_cases h : ∃ p, s.peer n = some p ∧ p.state ≠ .hailed
  · obtain ⟨p, hp, hseen⟩ := h
    have hkeeps := (s.without n).keeps_noticeTaken n (p.wearer = s.cfg.wearer)
    rw [State.leaveFrame_of_seen hp hseen]
    obtain ⟨_, hwindow, hfull, _⟩ := hkeeps.rest_of_ru
    refine ⟨hkeeps.peer_eq_none hnone, fun j hj => (hkeeps.peer j).trans (by rw [hother j hj]), rfl,
      hwindow, hfull, ?_⟩
    refine iff_of_true ?_ (.inr ⟨p, hp, hseen⟩)
    exact (State.flag_setFlag ((s.without n).noticeTaken n (p.wearer = s.cfg.wearer)) .peerLeft
      .peerLeft).trans (by simp)
  · have hunseen : ∀ p, s.peer n = some p → p.state = .hailed := fun p hp =>
      not_not.1 fun hne => h ⟨p, hp, hne⟩
    rw [State.leaveFrame_of_unseen hunseen]
    exact ⟨hnone, fun j hj => congrArg _ (hother j hj), rfl, rfl, rfl, (or_iff_left h).symm⟩

/-- Settles O19. -/
theorem leaveFrameRemovesSender : Obligations.LeaveFrameRemovesSender := by
  intro bytes f s hpass hleave _ n others
  obtain ⟨hnone, hother, hdeparted, hwindow, hfull, hflag⟩ := s.leaveFrame_spec n
  have hru : (s.leaveFrame n).linkReact.ru = (s.leaveFrame n).ru := by simp
  have hcl : (s.leaveFrame n).linkReact.cl = (s.leaveFrame n).cl := by simp
  refine ⟨(s.leaveFrame n).linkReact, ?_, ?_, fun j hj => ?_, ?_, ?_, ?_, ?_, by simp, by simp,
    by simp, ?_⟩
  · rw [exec_frameArrival_of_passes hpass, State.takeArrival_of_leave hleave]
  · rw [State.peer_congr (congrArg RosterUnit.peers hru), hnone]
  · rw [State.peer_congr (congrArg RosterUnit.peers hru), hother j hj]
  · rw [hru, hdeparted]
    rfl
  · rw [State.flag_congr (congrArg ControlLine.flags hcl), hflag]
  · rw [hru, hwindow]
  · rw [hru, hfull]
  · intro r
    refine ⟨fun p hp hseen => ?_, fun hunseen => ?_⟩
    · intro u
      rw [hru, hdeparted, State.leaveFrame_of_seen hp hseen]
      rfl
    · rw [hru, hdeparted, State.leaveFrame_of_unseen hunseen]
      rfl

end Sys2Proof.Machine
end

section
/-! PROOFS. Arrivals that bring nobody in yet (sections 2.2 to 2.6). -/

namespace Sys2Proof.Machine

/-! ## R21's five steps -/

theorem State.codeMatches_iff (s : State) (f : Frame) : s.codeMatches f.body = true ↔ s.OwnCode f := by
  unfold State.OwnCode State.codeMatches
  cases f.body <;> simp

/-- Introduction asks for a roster list that names the station, and looks at the departed list. -/
theorem State.introduced_iff (s : State) (n : Nat) : s.introduced n = true ↔ s.Vouched n := by
  simp [State.introduced, State.Vouched]

section
variable {s : State} {f : Frame}

theorem State.takeArrival_of_other_code (hkind : f.header.kind ≠ .leave) (h : ¬s.OwnCode f) :
    s.takeArrival f =
      { s with ru := { s.ru with codeMismatch := min 65535 (s.ru.codeMismatch + 1) } } := by
  rw [State.takeArrival, if_neg hkind, if_pos (by simpa using mt (s.codeMatches_iff f).1 h)]
  rfl

variable (hkind : f.header.kind ≠ .leave) (hcode : s.OwnCode f)
include hkind hcode

theorem State.takeArrival_of_seen {p : Peer} (hp : s.peer f.header.station = some p)
    (h : p.state ≠ .hailed) : s.takeArrival f = s.refreshPeer f p := by
  have hmatch : ¬(!s.codeMatches f.body) = true := by simpa using (s.codeMatches_iff f).2 hcode
  rw [State.takeArrival, if_neg hkind, if_neg hmatch]
  simp only [hp, Peer.seen_of_not_hailed h, if_true]

/-- A newcomer's HAIL in an open window (R28), and any other newcomer's frame (R30). -/
theorem State.takeArrival_of_none (hp : s.peer f.header.station = none) :
    (∀ code heard, f.body = .hail code heard → s.ru.window.isSome = true →
      s.takeArrival f = s.pairNew f heard) ∧
    (¬(s.ru.window.isSome = true ∧ ∃ code heard, f.body = .hail code heard) →
      s.takeArrival f = s.introduceNew f) := by
  have hmatch : ¬(!s.codeMatches f.body) = true := by simpa using (s.codeMatches_iff f).2 hcode
  rw [State.takeArrival, if_neg hkind, if_neg hmatch]
  cases hbody : f.body <;> simp_all

/-- A HAILED sender's HAIL in an open window (R28), and any other frame of one (R30). -/
theorem State.takeArrival_of_hailed {p : Peer} (hp : s.peer f.header.station = some p)
    (h : p.state = .hailed) :
    (∀ code heard, f.body = .hail code heard → s.ru.window.isSome = true →
      s.takeArrival f = s.pairHailed f heard) ∧
    (¬(s.ru.window.isSome = true ∧ ∃ code heard, f.body = .hail code heard) →
      s.takeArrival f = s.introduceHailed f false) := by
  have hmatch : ¬(!s.codeMatches f.body) = true := by simpa using (s.codeMatches_iff f).2 hcode
  have hseen := Peer.not_seen_of_hailed h
  rw [State.takeArrival, if_neg hkind, if_neg hmatch]
  cases hbody : f.body <;> simp_all

end

/-! ## Nobody admitted (R24, R30, R34) -/

section
variable {s : State} {f : Frame}

theorem State.introduceNew_of_unvouched (h : ¬s.Vouched f.header.station) : s.introduceNew f = s := by
  rw [State.introduceNew, if_neg (mt (s.introduced_iff _).1 h)]

theorem State.introduceHailed_of_unvouched (h : ¬s.Vouched f.header.station) (counted : Bool) :
    s.introduceHailed f counted = s := by
  rw [State.introduceHailed, if_neg (mt (s.introduced_iff _).1 h)]

theorem State.isFull_iff (s : State) : s.isFull = true ↔ 9 ≤ s.ru.peers.length :=
  decide_eq_true_iff

theorem State.pairNew_of_full (h : 9 ≤ s.ru.peers.length) (heard : List Nat) :
    s.pairNew f heard = s.tableFull := by
  rw [State.pairNew, if_pos (s.isFull_iff.2 h)]

theorem State.introduceNew_of_full (h : 9 ≤ s.ru.peers.length) (hv : s.Vouched f.header.station) :
    s.introduceNew f = s.tableFull := by
  rw [State.introduceNew, if_pos ((s.introduced_iff _).2 hv), if_pos (s.isFull_iff.2 h)]

end

/-- Settles O14. -/
theorem unadmittedFramesAreUsedForNothing : Obligations.UnadmittedFramesAreUsedForNothing := by
  intro bytes f s hpass hkind n pairs
  rw [exec_frameArrival_of_passes hpass]
  refine ⟨fun hcode => ?_, fun hcode hpairs hhailed hvouched => ?_, fun hcode hnone hfull hwants => ?_⟩
  · rw [State.takeArrival_of_other_code hkind hcode]
  · cases hp : s.peer n with
    | none =>
      rw [(State.takeArrival_of_none hkind hcode hp).2 hpairs, State.introduceNew_of_unvouched hvouched]
    | some p =>
      rw [(State.takeArrival_of_hailed hkind hcode hp (hhailed p hp)).2 hpairs,
        State.introduceHailed_of_unvouched hvouched]
  · have htaken : s.takeArrival f = s.tableFull := by
      obtain ⟨hpair, hother⟩ := State.takeArrival_of_none hkind hcode hnone
      by_cases h : pairs
      · obtain ⟨hopen, code, heard, hbody⟩ := h
        rw [hpair code heard hbody hopen, State.pairNew_of_full hfull]
      · rw [hother h, State.introduceNew_of_full hfull (hwants.resolve_left h)]
    rw [htaken]
    rfl

/-! ## A HAILED entry made or renewed (R28, R29) -/

section
variable {s : State} {f : Frame} {heard : List Nat}

/-- A HAIL that does not name the station makes a HAILED entry, which may yet be introduced. -/
theorem State.pairNew_of_unnamed (h : s.ru.peers.length < 9) (hnamed : s.own ∉ heard) :
    s.pairNew f heard = ((s.undepart f.header.station).addPeer
      (newPeer s.own s.now f .hailed true)).introduceHailed f true := by
  rw [State.pairNew, if_neg (by simpa [s.isFull_iff] using h)]
  exact if_neg hnamed

/-- The entry of a HAILED station renewed by its HAIL. -/
def Peer.renewed (p : Peer) (own now : Nat) (f : Frame) : Peer :=
  { p.countFrame.takeFrame own now f with hailMark := true }

theorem State.pairHailed_of_unnamed (hnamed : s.own ∉ heard) :
    s.pairHailed f heard = ((s.undepart f.header.station).mapPeer f.header.station
      (fun p => p.renewed s.own s.now f)).introduceHailed f true := by
  rw [State.pairHailed]
  exact if_neg hnamed

end

/-- Settles O15. -/
theorem hailWithoutUsMakesHailedEntry : Obligations.HailWithoutUsMakesHailedEntry := by
  intro bytes f code heard s hpass hhail hbody hcode hopen hnamed hvouch n departed
  have hkind : f.header.kind ≠ .leave := by simp [hhail]
  have hown : s.OwnCode f := by
    intro c l hb
    rw [hbody] at hb
    cases hb
    exact hcode
  rw [exec_frameArrival_of_passes hpass]
  refine ⟨fun hnone hroom => ?_, fun p hp hhailed => ?_⟩
  · rw [(State.takeArrival_of_none hkind hown hnone).1 code heard hbody hopen,
      State.pairNew_of_unnamed hroom hnamed, State.introduceHailed_of_unvouched]
    · simp only [newPeer, hbody, bodyRoster, bodyHeard, bodyHailedMe, hnamed, decide_false]
      rfl
    · rintro ⟨⟨q, hq, hadm, hmem⟩, _⟩
      rcases mem_insertPeer.1 hq with rfl | hq
      · cases hadm
      · exact hvouch q hq hadm hmem
  · rw [(State.takeArrival_of_hailed hkind hown hp hhailed).1 code heard hbody hopen,
      State.pairHailed_of_unnamed hnamed, State.introduceHailed_of_unvouched]
    · simp only [Peer.renewed, Peer.takeFrame, Peer.countFrame, hbody, bodyRoster, bodyHeard,
        bodyHailedMe, hnamed, decide_false]
      rfl
    · rintro ⟨⟨q, hq, hadm, hmem⟩, _⟩
      obtain ⟨q', hq', rfl⟩ := List.mem_map.1 hq
      refine hvouch q' hq' ?_ ?_
      · revert hadm
        split <;> exact id
      · revert hmem
        split
        · simp only [Peer.renewed, Peer.takeFrame, hbody, bodyRoster]
          exact id
        · exact id

end Sys2Proof.Machine
end

section
/-! PROOFS. Every admission (sections 2.2 to 2.6). -/

namespace Sys2Proof.Machine

/-! ## Lookups behind an insertion and behind two changes of one entry -/

theorem findPeer_insertPeer_eq {p : Peer} {n : Nat} {ps : List Peer} (hp : p.station = n)
    (h : ∀ q ∈ ps, q.station ≠ n) : findPeer n (insertPeer p ps) = some p := by
  induction ps with
  | nil => simp [insertPeer, findPeer, hp]
  | cons q qs ih =>
    unfold insertPeer
    split
    · simp [findPeer, hp]
    · have hq : ¬q.station = n := h q (by simp)
      have := ih fun r hr => h r (by simp [hr])
      simpa [findPeer, List.find?_cons, hq] using this

theorem findPeer_insertPeer_ne {p : Peer} {j : Nat} (hj : j ≠ p.station) (ps : List Peer) :
    findPeer j (insertPeer p ps) = findPeer j ps := by
  induction ps with
  | nil => simp [insertPeer, findPeer, Ne.symm hj]
  | cons q qs ih =>
    unfold insertPeer
    split
    · simp [findPeer, List.find?_cons, Ne.symm hj]
    · simp only [findPeer, List.find?_cons] at ih ⊢
      rw [ih]

theorem updatePeer_updatePeer {n : Nat} {f : Peer → Peer} (hf : ∀ p, (f p).station = p.station)
    (g : Peer → Peer) (ps : List Peer) :
    updatePeer n g (updatePeer n f ps) = updatePeer n (g ∘ f) ps := by
  rw [updatePeer, updatePeer, updatePeer, List.map_map]
  refine List.map_congr_left fun p _ => ?_
  by_cases hp : p.station = n <;> simp [hp, hf]

/-! ## The entry that an admission finds -/

/-- The entry of an admitted sender, from its frame and the entry it had (R20, R28, R30). -/
structure Peer.AdmittedBy (s : State) (f : Frame) (x : Peer) : Prop where
  state : x.state = .admitted
  wearer : x.wearer = f.header.wearer
  lastHeard : x.lastHeard = s.now
  lastSeq : x.lastSeq = f.header.seq
  header : x.header = f.header.sender
  lostAt : x.lostAt = none
  fresh : s.peer f.header.station = none → x.frames = 1 ∧ x.missed = 0
  counted : ∀ q, s.peer f.header.station = some q →
    x.frames = min 65535 (q.frames + 1) ∧ x.missed = q.missed
  hailMark : x.hailMark = true ↔
    (s.ru.window.isSome = true ∧ ∃ code heard, f.body = .hail code heard) ∨
      ∃ q, s.peer f.header.station = some q ∧ q.hailMark = true
  lastSeen : x.lastSeen = (s.peer f.header.station).bind (·.lastSeen)

/-- The state that an admission is made from: the sender's entry stands ADMITTED in the table, and a
HAIL in an open window has taken the sender off the departed list. -/
structure State.Admitting (s : State) (f : Frame) (a : State) : Prop where
  taken : s.takeArrival f = a.admission f
  shape : a = { s with ru := { s.ru with peers := a.ru.peers, departed := a.ru.departed } }
  entry : ∃ x, a.peer f.header.station = some x ∧ x.AdmittedBy s f
  others : ∀ j, j ≠ f.header.station → a.peer j = s.peer j
  offList : (s.ru.window.isSome = true ∧ ∃ code heard, f.body = .hail code heard) →
    a.ru.departed = s.ru.departed.filter (fun d => d.station ≠ f.header.station)
  onList : ¬(s.ru.window.isSome = true ∧ ∃ code heard, f.body = .hail code heard) →
    a.ru.departed = s.ru.departed

/-- An entry that takes a frame and is ADMITTED (R30). -/
def Peer.introduced (p : Peer) (own now : Nat) (f : Frame) : Peer :=
  { p.takeFrame own now f with state := .admitted }

section
variable {s : State} {f : Frame}

theorem newPeer_admittedBy (hnone : s.peer f.header.station = none) {mark : Bool}
    (hmark : mark = true ↔ s.ru.window.isSome = true ∧ ∃ code heard, f.body = .hail code heard) :
    (newPeer s.own s.now f .admitted mark).AdmittedBy s f where
  state := rfl
  wearer := rfl
  lastHeard := rfl
  lastSeq := rfl
  header := rfl
  lostAt := rfl
  fresh _ := ⟨rfl, rfl⟩
  counted q hq := by simp [hnone] at hq
  hailMark := by simpa [hnone, newPeer] using hmark
  lastSeen := by simp [hnone, newPeer]

/-- An entry renewed by its frame and admitted. -/
theorem takeFrame_admittedBy {q : Peer} (hq : s.peer f.header.station = some q)
    (hlost : q.lostAt = none) {mark : Bool}
    (hmark : mark = true ↔ (s.ru.window.isSome = true ∧ ∃ code heard, f.body = .hail code heard) ∨
      q.hailMark = true) :
    ({ q.countFrame.takeFrame s.own s.now f with state := .admitted, hailMark := mark } :
      Peer).AdmittedBy s f where
  state := rfl
  wearer := rfl
  lastHeard := rfl
  lastSeq := rfl
  header := rfl
  lostAt := hlost
  fresh h := by simp [hq] at h
  counted r hr := by
    rw [hq] at hr
    cases hr
    exact ⟨rfl, rfl⟩
  hailMark := by simpa [hq] using hmark
  lastSeen := by simp [hq, Peer.takeFrame, Peer.countFrame]

variable (hkind : f.header.kind ≠ .leave) (hcode : s.OwnCode f)
include hkind hcode

/-- A newcomer's HAIL in an open window: named, or vouched for by a roster list (R28, R30). -/
theorem State.admitting_of_new_hail (hnone : s.peer f.header.station = none)
    (hroom : s.ru.peers.length < 9) {code : BitVec 32} {heard : List Nat}
    (hbody : f.body = .hail code heard) (hopen : s.ru.window.isSome = true)
    (hwhy : s.own ∈ heard ∨ ∃ p ∈ s.ru.peers, p.state = .admitted ∧ f.header.station ∈ p.roster) :
    ∃ a, s.Admitting f a := by
  have htaken := (State.takeArrival_of_none hkind hcode hnone).1 code heard hbody hopen
  have hpair : s.ru.window.isSome = true ∧ ∃ code heard, f.body = .hail code heard :=
    ⟨hopen, code, heard, hbody⟩
  have hfree : ∀ q ∈ s.ru.peers, q.station ≠ f.header.station := findPeer_none.1 hnone
  have entry := newPeer_admittedBy hnone (mark := true) (iff_of_true rfl hpair)
  by_cases hnamed : s.own ∈ heard
  · refine ⟨(s.undepart f.header.station).addPeer (newPeer s.own s.now f .admitted true), ?_, rfl,
      ⟨_, findPeer_insertPeer_eq rfl hfree, entry⟩, fun j hj => findPeer_insertPeer_ne hj _,
      fun _ => rfl, fun h => absurd hpair h⟩
    rw [htaken, State.pairNew, if_neg (by simpa [s.isFull_iff] using hroom)]
    exact if_pos hnamed
  · obtain ⟨q, hq, hadm, hmem⟩ := hwhy.resolve_left hnamed
    have hintro : ((s.undepart f.header.station).addPeer (newPeer s.own s.now f .hailed true)).introduced
        f.header.station = true := by
      refine (State.introduced_iff _ _).2 ⟨⟨q, mem_insertPeer.2 (.inr hq), hadm, hmem⟩, ?_⟩
      simp [State.undepart, State.addPeer]
    refine ⟨((s.undepart f.header.station).addPeer (newPeer s.own s.now f .hailed true)).mapPeer
      f.header.station (fun p => p.introduced s.own s.now f), ?_, rfl,
      ⟨(newPeer s.own s.now f .hailed true).introduced s.own s.now f, ?_,
        ⟨rfl, rfl, rfl, rfl, rfl, rfl, entry.fresh, entry.counted, entry.hailMark,
        entry.lastSeen⟩⟩, fun j hj => ?_, fun _ => rfl, fun h => absurd hpair h⟩
    · rw [htaken, State.pairNew_of_unnamed hroom hnamed, State.introduceHailed, if_pos hintro]
      rfl
    · have hfound := findPeer_insertPeer_eq (p := newPeer s.own s.now f .hailed true) rfl hfree
      exact (findPeer_updatePeer_eq (fun p : Peer => p.introduced s.own s.now f) (fun _ => rfl)
        _).trans (congrArg _ hfound)
    · exact (findPeer_updatePeer_ne (fun p : Peer => p.introduced s.own s.now f) (fun _ => rfl)
        _ hj).trans (findPeer_insertPeer_ne hj _)

/-- A newcomer's other frame, vouched for (R30). -/
theorem State.admitting_of_new_other (hnone : s.peer f.header.station = none)
    (hroom : s.ru.peers.length < 9)
    (hpair : ¬(s.ru.window.isSome = true ∧ ∃ code heard, f.body = .hail code heard))
    (hvouched : s.Vouched f.header.station) : ∃ a, s.Admitting f a := by
  have hfree : ∀ q ∈ s.ru.peers, q.station ≠ f.header.station := findPeer_none.1 hnone
  have entry := newPeer_admittedBy hnone (mark := false) (iff_of_false (by simp) hpair)
  refine ⟨s.addPeer (newPeer s.own s.now f .admitted false), ?_, rfl,
    ⟨_, findPeer_insertPeer_eq rfl hfree, entry⟩, fun j hj => findPeer_insertPeer_ne hj _,
    fun h => absurd h hpair, fun _ => rfl⟩
  rw [(State.takeArrival_of_none hkind hcode hnone).2 hpair, State.introduceNew,
    if_pos ((s.introduced_iff _).2 hvouched), if_neg (by simpa [s.isFull_iff] using hroom)]

/-- A HAILED sender's HAIL in an open window: named, or vouched for by a roster list (R28, R30). -/
theorem State.admitting_of_hailed_hail {q : Peer} (hq : s.peer f.header.station = some q)
    (hhailed : q.state = .hailed) (hlost : q.lostAt = none) {code : BitVec 32} {heard : List Nat}
    (hbody : f.body = .hail code heard) (hopen : s.ru.window.isSome = true)
    (hwhy : s.own ∈ heard ∨ ∃ p ∈ s.ru.peers, p.state = .admitted ∧ f.header.station ∈ p.roster) :
    ∃ a, s.Admitting f a := by
  have htaken := (State.takeArrival_of_hailed hkind hcode hq hhailed).1 code heard hbody hopen
  have hpair : s.ru.window.isSome = true ∧ ∃ code heard, f.body = .hail code heard :=
    ⟨hopen, code, heard, hbody⟩
  have entry := takeFrame_admittedBy hq hlost (mark := true) (iff_of_true rfl (.inl hpair))
  have renewed := findPeer_updatePeer_eq (n := f.header.station)
    (fun p : Peer => p.renewed s.own s.now f) (fun _ => rfl) s.ru.peers
  have other (g : Peer → Peer) (hg : ∀ p, (g p).station = p.station) (j : Nat)
      (hj : j ≠ f.header.station) : findPeer j (updatePeer f.header.station g
        (updatePeer f.header.station (fun p => p.renewed s.own s.now f) s.ru.peers)) = s.peer j :=
    (findPeer_updatePeer_ne g hg _ hj).trans
      (findPeer_updatePeer_ne (fun p : Peer => p.renewed s.own s.now f) (fun _ => rfl) _ hj)
  rw [← State.peer, hq] at renewed
  by_cases hnamed : s.own ∈ heard
  · refine ⟨((s.undepart f.header.station).mapPeer f.header.station
      (fun p => p.renewed s.own s.now f)).mapPeer f.header.station
      (fun p => { p with state := .admitted }), ?_, rfl,
      ⟨{ q.renewed s.own s.now f with state := .admitted }, ?_, entry⟩,
      other (fun p => { p with state := .admitted }) (fun _ => rfl), fun _ => rfl,
      fun h => absurd hpair h⟩
    · rw [htaken, State.pairHailed]
      exact if_pos hnamed
    · exact (findPeer_updatePeer_eq (fun p : Peer => { p with state := .admitted }) (fun _ => rfl)
        _).trans (congrArg _ renewed)
  · obtain ⟨v, hv, hadm, hmem⟩ := hwhy.resolve_left hnamed
    have hintro : ((s.undepart f.header.station).mapPeer f.header.station
        (fun p => p.renewed s.own s.now f)).introduced f.header.station = true := by
      refine (State.introduced_iff _ _).2 ⟨⟨_, List.mem_map_of_mem hv, ?_, ?_⟩, ?_⟩
      · split <;> exact hadm
      · split
        · simpa [Peer.renewed, Peer.takeFrame, Peer.countFrame, hbody, bodyRoster] using hmem
        · exact hmem
      · simp [State.undepart, State.mapPeer]
    refine ⟨((s.undepart f.header.station).mapPeer f.header.station
      (fun p => p.renewed s.own s.now f)).mapPeer f.header.station
      (fun p => p.introduced s.own s.now f), ?_, rfl,
      ⟨(q.renewed s.own s.now f).introduced s.own s.now f, ?_, ⟨rfl, rfl, rfl, rfl, rfl, hlost,
        entry.fresh, entry.counted, entry.hailMark, entry.lastSeen⟩⟩,
      other (fun p => p.introduced s.own s.now f) (fun _ => rfl), fun _ => rfl,
      fun h => absurd hpair h⟩
    · rw [htaken, State.pairHailed_of_unnamed hnamed, State.introduceHailed, if_pos hintro]
      rfl
    · exact (findPeer_updatePeer_eq (fun p : Peer => p.introduced s.own s.now f) (fun _ => rfl)
        _).trans (congrArg _ renewed)

/-- A HAILED sender's other frame, vouched for (R30). -/
theorem State.admitting_of_hailed_other {q : Peer} (hq : s.peer f.header.station = some q)
    (hhailed : q.state = .hailed) (hlost : q.lostAt = none)
    (hpair : ¬(s.ru.window.isSome = true ∧ ∃ code heard, f.body = .hail code heard))
    (hvouched : s.Vouched f.header.station) : ∃ a, s.Admitting f a := by
  have entry := takeFrame_admittedBy hq hlost (mark := q.hailMark) (or_iff_right hpair).symm
  refine ⟨s.mapPeer f.header.station (fun p => p.countFrame.introduced s.own s.now f), ?_, rfl,
    ⟨q.countFrame.introduced s.own s.now f, ?_, entry⟩, fun j hj => ?_, fun h => absurd h hpair,
    fun _ => rfl⟩
  · rw [(State.takeArrival_of_hailed hkind hcode hq hhailed).2 hpair, State.introduceHailed,
      if_pos ((s.introduced_iff _).2 hvouched)]
    rfl
  · exact (findPeer_updatePeer_eq (fun p : Peer => p.countFrame.introduced s.own s.now f)
      (fun _ => rfl) _).trans (congrArg _ hq)
  · exact findPeer_updatePeer_ne (fun p : Peer => p.countFrame.introduced s.own s.now f)
      (fun _ => rfl) _ hj

end

/-! ## What an admission hands on (R23, R33) -/

/-- A header at the Call Request Unit: an ACTIVE bridge compares it with its record. -/
def State.asked (s : State) (f : Frame) : State :=
  if s.bu.state = .active then s.bridgeHeader f.header.station f.header.sender else s

/-- Role and bridge evaluated, the role for a mate alone. -/
def State.judged (s : State) (mate : Prop) [Decidable mate] : State :=
  (if mate then s.evaluateRole else s).evaluateBridge

theorem State.headerTaken_eq (s : State) (f : Frame) (mate : Prop) [Decidable mate] :
    s.headerTaken f mate = f.extras.elim ((s.judged mate).asked f)
      (((s.judged mate).asked f).takeExtras f.header.station) := rfl

theorem State.keeps_judged (s : State) (mate : Prop) [Decidable mate] : s.Keeps (s.judged mate) := by
  rw [State.judged]
  split
  · exact (State.Keeps.evaluateRole s).trans (.evaluateBridge _)
  · exact .evaluateBridge s

theorem State.keeps_asked (s : State) (f : Frame) : s.Keeps (s.asked f) := by
  rw [State.asked]
  split
  · exact .bridgeHeader s _ _
  · exact .refl s

theorem State.keeps_headerTaken (s : State) (f : Frame) (mate : Prop) [Decidable mate] :
    s.Keeps (s.headerTaken f mate) := by
  have header := (s.keeps_judged mate).trans (State.keeps_asked _ f)
  rw [State.headerTaken_eq]
  cases f.extras with
  | none => exact header
  | some x => exact header.trans (.takeExtras _ _ x)

/-- An entry with the empty voice queue of an admission (R32). -/
def Peer.voiced (p : Peer) : Peer := { p with queue := some (RxQueue.cleared QueueCounts.zero) }

/-- An entry whose header is handed on by an admission: an ACTIVE bridge has no record of it. -/
def Peer.joining (active : Prop) [Decidable active] (p : Peer) : Peer :=
  { p.voiced with lastSeen := if active then none else p.lastSeen }

/-- The state from which an admission's header is handed on. -/
def State.joined (a : State) (n : Nat) : State :=
  { a with
    ru := { a.ru with peers := updatePeer n (Peer.joining (a.bu.state = .active)) a.ru.peers }
    sa := { a.sa with promptDue := true }
    cl := { a.cl with flags := a.cl.flags ||| stickyMask .peerJoined } }

theorem State.joined_peer (a : State) (n : Nat) :
    (a.joined n).peer n = (a.peer n).map (Peer.joining (a.bu.state = .active)) ∧
    ∀ j, j ≠ n → (a.joined n).peer j = a.peer j :=
  ⟨findPeer_updatePeer_eq (Peer.joining (a.bu.state = .active)) (fun _ => rfl) _,
    fun _ hj => findPeer_updatePeer_ne (Peer.joining (a.bu.state = .active)) (fun _ => rfl) _ hj⟩

/-- Toggles recorded leave nothing of the record before them. -/
theorem State.seeToggles_joined (a : State) (n : Nat) (t : PerKind Bool) :
    ((a.setFlag .peerJoined).mapPeer n Peer.voiced).askPresence.seeToggles n t =
      (a.joined n).seeToggles n t := by
  have hpeers : updatePeer n (fun p => { p with lastSeen := some t })
        (updatePeer n Peer.voiced a.ru.peers) =
      updatePeer n (fun p => { p with lastSeen := some t })
        (updatePeer n (Peer.joining (a.bu.state = .active)) a.ru.peers) := by
    rw [updatePeer_updatePeer (f := Peer.voiced) (fun _ => rfl),
      updatePeer_updatePeer (f := Peer.joining _) (fun _ => rfl)]
    rfl
  exact congrArg (fun ps => { a with
    ru := { a.ru with peers := ps }
    sa := { a.sa with promptDue := true }
    cl := { a.cl with flags := a.cl.flags ||| stickyMask .peerJoined } }) hpeers

/-- The baseline of an admission is a header at a bridge that has no record of the station (R151). -/
theorem State.admission_eq {a : State} {f : Frame} {x : Peer} (hx : a.peer f.header.station = some x) :
    a.admission f = State.headerTaken ((a.joined f.header.station).asked f) f
      (f.header.wearer = a.cfg.wearer) := by
  have hsl : ((a.joined f.header.station).asked f).sl = a.sl := (State.keeps_asked _ f).sl
  have hbase : (if a.bu.state = .active then
      State.baseline ((a.setFlag .peerJoined).mapPeer f.header.station Peer.voiced).askPresence
        f.header.station f.header.sender
      else ((a.setFlag .peerJoined).mapPeer f.header.station Peer.voiced).askPresence) =
      (a.joined f.header.station).asked f := by
    by_cases h : a.bu.state = .active
    · have hx' := (a.joined_peer f.header.station).1
      rw [hx] at hx'
      rw [if_pos h, State.asked, if_pos (show (a.joined _).bu.state = .active from h),
        State.bridgeHeader_of_peer hx', State.baseline, State.seeToggles_joined]
      simp [Peer.newKinds, Peer.joining, h]
    · have hsame : Peer.joining (a.bu.state = .active) = Peer.voiced := by
        funext p
        rw [Peer.joining, if_neg h]
        rfl
      rw [if_neg h, State.asked, if_neg (show ¬(a.joined _).bu.state = .active from h), State.joined,
        hsame]
      rfl
  have := State.handHeader_eq ((a.joined f.header.station).asked f) f false
    (f.header.wearer = a.cfg.wearer) (by rw [State.cfg, hsl]; rfl)
  rw [← this, ← hbase]
  rfl

/-! ## What linkReact leaves of a prompt PRESENCE -/

theorem State.linkReact_prompt {s : State} (h : s.sa.promptDue = true) :
    s.linkReact.sa.promptDue = true ∨ s.linkReact.lp.access = .sending := by
  rcases s.linkReact_cases with hsame | ⟨_, _, hidle⟩ | ⟨_, _, hdefer⟩ | ⟨k, _, _, _, hover⟩
  · exact .inl (hsame.symm ▸ h)
  · exact .inl (hidle.symm ▸ h)
  · exact .inl (hdefer.symm ▸ h)
  · exact .inr (by rw [hover]; rfl)

/-- Fields that an entry keeps under a change of its last-seen toggles are those of the entry. -/
theorem Peer.eq_of_unseen {p q : Peer} (h : p.unseen = q.unseen) :
    p = { q with lastSeen := p.lastSeen } := by
  obtain ⟨⟩ := p
  obtain ⟨⟩ := q
  simp only [Peer.unseen, Peer.mk.injEq] at h ⊢
  tauto

/-- An arrival whose sender becomes ADMITTED by R28 or R30. -/
theorem State.exists_admitting {s : State} {f : Frame} (hcode : s.OwnCode f)
    (hkind : f.header.kind ≠ .leave) (hroster : s.RosterOk)
    (hwho : (s.peer f.header.station = none ∧ s.ru.peers.length < 9) ∨
      ∃ p, s.peer f.header.station = some p ∧ p.state = .hailed)
    (hwhy : (s.ru.window.isSome = true ∧ (∃ code heard, f.body = .hail code heard) ∧
        ((∃ code heard, f.body = .hail code heard ∧ s.own ∈ heard) ∨
          ∃ p ∈ s.ru.peers, p.state = .admitted ∧ f.header.station ∈ p.roster)) ∨
      (¬(s.ru.window.isSome = true ∧ ∃ code heard, f.body = .hail code heard) ∧
        s.Vouched f.header.station)) : ∃ a, s.Admitting f a := by
  obtain ⟨_, _, hpeers, _⟩ := hroster
  have named {code : BitVec 32} {heard : List Nat} (hbody : f.body = .hail code heard)
      (h : (∃ code heard, f.body = .hail code heard ∧ s.own ∈ heard) ∨
        ∃ p ∈ s.ru.peers, p.state = .admitted ∧ f.header.station ∈ p.roster) :
      s.own ∈ heard ∨ ∃ p ∈ s.ru.peers, p.state = .admitted ∧ f.header.station ∈ p.roster := by
    refine h.imp_left fun ⟨_, l, hl, hmem⟩ => ?_
    rw [hbody] at hl
    cases hl
    exact hmem
  rcases hwho with ⟨hnone, hroom⟩ | ⟨q, hq, hhailed⟩
  · rcases hwhy with ⟨hopen, ⟨code, heard, hbody⟩, hwhy⟩ | ⟨hpair, hvouched⟩
    · exact State.admitting_of_new_hail hkind hcode hnone hroom hbody hopen (named hbody hwhy)
    · exact State.admitting_of_new_other hkind hcode hnone hroom hpair hvouched
  · have hlost : q.lostAt = none := by
      obtain ⟨_, _, _, _, hlostAt, _⟩ := hpeers q (findPeer_some hq).1
      simpa [hhailed] using hlostAt
    rcases hwhy with ⟨hopen, ⟨code, heard, hbody⟩, hwhy⟩ | ⟨hpair, hvouched⟩
    · exact State.admitting_of_hailed_hail hkind hcode hq hhailed hlost hbody hopen (named hbody hwhy)
    · exact State.admitting_of_hailed_other hkind hcode hq hhailed hlost hpair hvouched

/-- Settles O16. -/
theorem admissionMakesPeer : Obligations.AdmissionMakesPeer := by
  intro bytes f s hpass hcode hkind hroster n named isHail open' newcomer wasHailed vouched hwho hwhy
  obtain ⟨a, htaken, hshape, ⟨x, hx, hentry⟩, hothers, hoff, hon⟩ :=
    State.exists_admitting hcode hkind hroster hwho hwhy
  obtain ⟨ps, ds, rfl⟩ : ∃ ps ds, a = { s with ru := { s.ru with peers := ps, departed := ds } } :=
    ⟨_, _, hshape⟩
  set a : State := { s with ru := { s.ru with peers := ps, departed := ds } } with ha
  obtain ⟨hjoined, hjoinedOther⟩ := a.joined_peer n
  rw [hx, Option.map_some] at hjoined
  have heq := State.admission_eq hx
  have hkeeps : (a.joined n).Keeps (a.admission f) := by
    rw [heq]
    exact (State.keeps_asked _ f).trans (State.keeps_headerTaken _ f _)
  obtain ⟨p, hp, hpx⟩ := hkeeps.peer_eq_some hjoined
  have hfields := Peer.eq_of_unseen hpx
  obtain ⟨hdeparted, hwindow, hfull, hmismatch⟩ := hkeeps.rest_of_ru
  have hru : (a.admission f).linkReact.ru = (a.admission f).ru := by simp
  have hpeer (j : Nat) : (a.admission f).linkReact.peer j = (a.admission f).peer j :=
    State.peer_congr (congrArg RosterUnit.peers hru) j
  have hflag : (a.joined n).flag .peerJoined = true := by
    rw [show (a.joined n).flag .peerJoined = (s.setFlag .peerJoined).flag .peerJoined from rfl,
      State.flag_setFlag]
    simp
  refine ⟨(a.admission f).linkReact, p, ?_, (hpeer n).trans hp,
    (congrArg Peer.state hfields).trans hentry.state,
    (congrArg Peer.wearer hfields).trans hentry.wearer,
    (congrArg Peer.lastHeard hfields).trans hentry.lastHeard,
    (congrArg Peer.lastSeq hfields).trans hentry.lastSeq,
    (congrArg Peer.header hfields).trans hentry.header,
    (congrArg Peer.lostAt hfields).trans hentry.lostAt, congrArg Peer.queue hfields,
    fun hnew => ?_, fun q hq => ?_, ?_, ?_, State.linkReact_prompt (hkeeps.prompt rfl),
    fun j hj => ?_, fun h => ?_, fun h => ?_, ?_, ?_, ?_, ?_, ?_, ?_, ?_,
    a.joined n, _, hjoined, hpx.symm, ?_, fun j hj => ?_, ?_, ?_⟩
  · rw [exec_frameArrival_of_passes hpass, htaken]
  · exact ⟨(congrArg Peer.frames hfields).trans (hentry.fresh hnew.1).1,
      (congrArg Peer.missed hfields).trans (hentry.fresh hnew.1).2⟩
  · exact ⟨(congrArg Peer.frames hfields).trans (hentry.counted q hq).1,
      (congrArg Peer.missed hfields).trans (hentry.counted q hq).2⟩
  · rw [congrArg Peer.hailMark hfields]
    exact hentry.hailMark
  · exact (State.flag_congr (by simp) _).trans (hkeeps.flags _ hflag)
  · rw [hpeer, hkeeps.peer, hjoinedOther j hj, hothers j hj]
  · rw [hru, hdeparted]
    exact hoff h
  · rw [hru, hdeparted]
    exact hon h
  · rw [hru, hwindow]
    rfl
  · rw [hru, hfull]
    rfl
  · rw [hru, hmismatch]
    rfl
  · simp [ha]
  · simp [ha]
  · simp [ha]
  · simp [ha]
  · simp only [Peer.joining, hentry.lastSeen]
    rfl
  · rw [hjoinedOther j hj, hothers j hj]
  · rw [hru, hdeparted]
    rfl
  · rw [heq]
    rfl

end Sys2Proof.Machine
end

section
/-! PROOFS. A frame from an ADMITTED or LOST peer (R22, R23), and its sections (R78, R79). -/

namespace Sys2Proof.Machine

/-! ## What is known of an entry changed in one place -/

/-- A change of the one entry of a station is a replacement of it. -/
theorem updatePeer_eq_replace {ps : List Peer} (h : ps.Pairwise (fun p q => p.station < q.station))
    {p : Peer} (hp : p ∈ ps) (f : Peer → Peer) :
    updatePeer p.station f ps = updatePeer p.station (fun _ => f p) ps := by
  refine List.map_congr_left fun q hq => ?_
  by_cases hqp : q.station = p.station
  · have : q = p := Option.some_inj.1 ((findPeer_of_mem h hq).symm.trans
      (hqp ▸ findPeer_of_mem h hp))
    rw [if_pos hqp, if_pos hqp, this]
  · rw [if_neg hqp, if_neg hqp]

/-- The state with the entry of a station replaced. -/
def State.withPeer (s : State) (n : Nat) (x : Peer) : State :=
  { s with ru := { s.ru with peers := updatePeer n (fun _ => x) s.ru.peers } }

theorem State.withPeer_peer {s : State} {n : Nat} {p x : Peer} (hp : s.peer n = some p)
    (hx : x.station = n) :
    (s.withPeer n x).peer n = some x ∧ ∀ j, j ≠ n → (s.withPeer n x).peer j = s.peer j := by
  have station (q : Peer) : ((fun q : Peer => if q.station = n then x else q) q).station = q.station := by
    dsimp only
    split
    · next h => rw [hx, h]
    · rfl
  constructor
  · refine (findPeer_map station n s.ru.peers).trans ?_
    rw [← State.peer, hp, Option.map_some, if_pos (findPeer_some hp).2]
  · intro j hj
    refine (findPeer_map station j s.ru.peers).trans ?_
    rw [← State.peer]
    cases hq : s.peer j with
    | none => rfl
    | some q =>
      have := (findPeer_some hq).2
      rw [Option.map_some, if_neg (by omega)]

/-! ## The refresh (R22) -/

/-- An entry refreshed by its frame, with the hail mark of a HAIL in an open window (R28). -/
def Peer.refreshed (p : Peer) (s : State) (f : Frame) : Peer :=
  { p.refresh s.own s.now f with
    hailMark := (p.refresh s.own s.now f).hailMark ||
      (decide (f.header.kind = .hail) && s.ru.window.isSome) }

theorem State.refreshPeer_eq {s : State} {f : Frame} {p : Peer} (hroster : s.RosterOk)
    (hp : s.peer f.header.station = some p) (h : p.state ≠ .hailed) :
    s.refreshPeer f p = ((s.withPeer f.header.station (p.refreshed s f)).headerTaken f
      (p.wearer = s.cfg.wearer ∨ f.header.wearer = s.cfg.wearer)).handSections f := by
  obtain ⟨_, hsorted, _⟩ := hroster
  obtain ⟨hmem, hstation⟩ := findPeer_some hp
  have hreplace : s.mapPeer f.header.station (fun p => p.refreshed s f) =
      s.withPeer f.header.station (p.refreshed s f) := by
    rw [State.mapPeer, State.withPeer, ← hstation, updatePeer_eq_replace hsorted hmem]
  have hmate : (s.isMate p || decide (f.header.wearer = s.cfg.wearer)) =
      decide (p.wearer = s.cfg.wearer ∨ f.header.wearer = s.cfg.wearer) := by
    rw [s.isMate_of_seen (Peer.seen_of_not_hailed h), Bool.decide_or]
  rw [← State.handHeader_eq (s.withPeer f.header.station (p.refreshed s f)) f (s.isMate p) _ hmate,
    ← hreplace]
  rfl

/-- The counts that a refresh leaves (R22): a gap of 255 counts no missed frame, and neither does a
frame of a LOST peer. -/
theorem Peer.refreshed_counts {p : Peer} (hp : p.missed ≤ 65535) (s : State) (f : Frame) :
    (p.refreshed s f).frames = min 65535 (p.frames + 1) ∧
    (p.refreshed s f).missed =
      (if p.state = .admitted ∧ (f.header.seq - p.lastSeq - 1).toNat ≠ 255 then
        min 65535 (p.missed + (f.header.seq - p.lastSeq - 1).toNat) else min 65535 p.missed) := by
  refine ⟨rfl, ?_⟩
  have hmissed : (p.refreshed s f).missed = if p.state = .admitted then
      countUp p.missed (missedOf (f.header.seq - p.lastSeq - 1).toNat) else p.missed := rfl
  rw [hmissed]
  generalize (f.header.seq - p.lastSeq - 1).toNat = gap
  by_cases hadm : p.state = .admitted
  · by_cases hgap : gap = 255 <;> simp [hadm, hgap, missedOf, countUp]
  · simp [hadm, hp]

/-! ## Sections placed (R78, R79) -/

section
variable {u : State} {n : Nat} {t : TalkSection}

theorem State.placeVoice_of_queue {q : RxQueue} (h : (u.peer n).bind (·.queue) = some q) :
    u.placeVoice n t = (u.mapPeer n (fun p => { p with
      queue := some (q.placeAll u.cfg.depth (numberBlocks t.first t.blocks)).1 })).setFlagIf
      (q.placeAll u.cfg.depth (numberBlocks t.first t.blocks)).2 .queueSlide := by
  rw [State.placeVoice, h]

theorem State.placeVoice_of_none (h : (u.peer n).bind (·.queue) = none) : u.placeVoice n t = u := by
  rw [State.placeVoice, h]

end

theorem State.flag_setFlagIf (s : State) (c : Bool) (f g : Sticky) :
    (s.setFlagIf c f).flag g = (s.flag g || (c && decide (f = g))) := by
  cases c with
  | false => simp [State.setFlagIf]
  | true => simp [State.setFlagIf, State.flag_setFlag]

theorem State.setFlagIf_peer (s : State) (c : Bool) (f : Sticky) (n : Nat) :
    (s.setFlagIf c f).peer n = s.peer n := State.peer_congr (by simp) n

/-- What sections placed leave alone: entries but for the queue of the sender's, the rest of the
Roster Unit, and every flag but QUEUE_SLIDE. -/
structure State.Placed (u : State) (n : Nat) (t : State) : Prop where
  peers : ∃ g : Peer → Option RxQueue,
    t.ru.peers = updatePeer n (fun p => { p with queue := g p }) u.ru.peers
  rest : t.ru.departed = u.ru.departed ∧ t.ru.window = u.ru.window
  flags : ∀ f, f ≠ .queueSlide → t.flag f = u.flag f

theorem State.placed_placeVoice (u : State) (n : Nat) (v : TalkSection) : u.Placed n (u.placeVoice n v) := by
  cases h : (u.peer n).bind (·.queue) with
  | none =>
    rw [State.placeVoice_of_none h]
    refine ⟨⟨fun p => p.queue, ?_⟩, ⟨rfl, rfl⟩, fun _ _ => rfl⟩
    simp [updatePeer]
  | some q =>
    rw [State.placeVoice_of_queue h]
    refine ⟨⟨fun _ => some (q.placeAll u.cfg.depth (numberBlocks v.first v.blocks)).1, by simp⟩,
      by simp, fun f hf => ?_⟩
    rw [State.flag_setFlagIf, decide_eq_false (Ne.symm hf), Bool.and_false, Bool.or_false]
    rfl

theorem State.placeCall_flag (u : State) (n : Nat) (c : TalkSection) (f : Sticky) :
    (u.placeCall n c).flag f = (u.flag f || (decide (u.bu.followed = some n) &&
      (u.rq.queue.placeAll u.cfg.depth (numberBlocks c.first c.blocks)).2 &&
      decide (.queueSlide = f))) := by
  by_cases h : u.bu.followed = some n
  · rw [State.placeCall, if_pos h]
    refine (State.flag_setFlagIf _ _ _ _).trans ?_
    rw [decide_eq_true h, Bool.true_and]
    rfl
  · rw [State.placeCall, if_neg h, decide_eq_false h]
    simp

theorem State.placed_handSections (u : State) (f : Frame) :
    u.Placed f.header.station (u.handSections f) := by
  have same : u.Placed f.header.station u :=
    ⟨⟨fun p => p.queue, by simp [updatePeer]⟩, ⟨rfl, rfl⟩, fun _ _ => rfl⟩
  cases hbody : f.body with
  | talk v c =>
    have ht : u.handSections f = (u.placeVoice f.header.station v).placeCall f.header.station c := by
      rw [State.handSections, hbody]
    obtain ⟨⟨g, hpeers⟩, hrest, hflags⟩ := u.placed_placeVoice f.header.station v
    rw [ht]
    refine ⟨⟨g, by simpa using hpeers⟩, by simpa using hrest, fun h hne => ?_⟩
    rw [State.placeCall_flag, hflags h hne, decide_eq_false (Ne.symm hne)]
    simp
  | presence l => rwa [State.handSections, hbody]
  | hail code heard => rwa [State.handSections, hbody]
  | leave => rwa [State.handSections, hbody]

theorem State.handSections_of_other {u : State} {f : Frame} (h : ∀ v c, f.body ≠ .talk v c) :
    u.handSections f = u := by
  cases hbody : f.body with
  | talk v c => exact absurd hbody (h v c)
  | presence l => rw [State.handSections, hbody]
  | hail code heard => rw [State.handSections, hbody]
  | leave => rw [State.handSections, hbody]

theorem State.handSections_eq (u : State) {f : Frame} : u.handSections f =
    match f.body with
    | .talk v c => (u.placeVoice f.header.station v).placeCall f.header.station c
    | _ => u := by
  unfold State.handSections
  cases f.body <;> rfl

/-- An entry behind sections placed: only the sender's queue can have changed. -/
theorem State.Placed.peer {u t : State} {n : Nat} (h : u.Placed n t) :
    (∀ j, j ≠ n → t.peer j = u.peer j) ∧
    ∀ y, u.peer n = some y → ∃ z, t.peer n = some z ∧ z = { y with queue := z.queue } := by
  obtain ⟨⟨g, hpeers⟩, _⟩ := h
  refine ⟨fun j hj => ?_, fun y hy => ⟨{ y with queue := g y }, ?_, rfl⟩⟩
  · rw [State.peer, hpeers]
    exact findPeer_updatePeer_ne (fun p : Peer => { p with queue := g p }) (fun _ => rfl) _ hj
  · rw [State.peer, hpeers]
    exact (findPeer_updatePeer_eq (fun p : Peer => { p with queue := g p }) (fun _ => rfl) _).trans
      (congrArg _ hy)

/-- A frame that passes has the body of its kind (R3). -/
theorem State.Passes.kind_hail {s : State} {bytes : List Byte} {f : Frame} (h : s.Passes bytes f) :
    f.header.kind = .hail ↔ ∃ code heard, f.body = .hail code heard := by
  obtain ⟨_, _, hparse, _⟩ := h
  obtain ⟨⟨_, _, _, hbody⟩, _⟩ := parseFrame_sound hparse
  revert hbody
  cases f.body <;> simp only [Body.WellFormed] <;> intro h
  · obtain ⟨hk, _⟩ := h
    simp [hk]
  · obtain ⟨hk, _⟩ := h
    simp [hk]
  · obtain ⟨hk, _⟩ := h
    simp [hk]
  · simp [h]

/-- Settles O17, by the refresh as a replacement of the sender's entry. -/
theorem peerFrameRefreshesEntry : Obligations.PeerFrameRefreshesEntry := by
  intro bytes f s p hpass hcode hkind hroster hp hstate n gap
  set x := p.refreshed s f with hx
  set u := (s.withPeer n x).headerTaken f (p.wearer = s.cfg.wearer ∨ f.header.wearer = s.cfg.wearer)
    with hu
  have htaken : s.takeArrival f = u.handSections f := by
    rw [State.takeArrival_of_seen hkind hcode hp hstate, State.refreshPeer_eq hroster hp hstate]
  have hkeeps : (s.withPeer n x).Keeps u := State.keeps_headerTaken _ f _
  obtain ⟨hmine, hothers⟩ := State.withPeer_peer hp (x := x) (findPeer_some hp).2
  obtain ⟨y, hy, hyx⟩ := hkeeps.peer_eq_some hmine
  have hplaced := u.placed_handSections f
  obtain ⟨hplacedOther, hplacedMine⟩ := hplaced.peer
  obtain ⟨q, hq, hqy⟩ := hplacedMine y hy
  have hyfields := Peer.eq_of_unseen hyx
  have hfields : q = { x with queue := q.queue, lastSeen := y.lastSeen } := by
    conv_lhs => rw [hqy, hyfields]
  have hmissed : p.missed ≤ 65535 := by
    obtain ⟨_, _, hpeers, _⟩ := hroster
    obtain ⟨_, _, _, _, _, _, _, hmissed⟩ := hpeers p (findPeer_some hp).1
    exact hmissed
  obtain ⟨hframes, hcounts⟩ := Peer.refreshed_counts hmissed s f
  have hru : (u.handSections f).linkReact.ru = (u.handSections f).ru := by simp
  have hpeer (j : Nat) : (u.handSections f).linkReact.peer j = (u.handSections f).peer j :=
    State.peer_congr (congrArg RosterUnit.peers hru) j
  obtain ⟨hdeparted, hwindow, _⟩ := hkeeps.rest_of_ru
  refine ⟨(u.handSections f).linkReact, q, ?_, (hpeer n).trans hq, congrArg Peer.state hfields,
    congrArg Peer.lostAt hfields, (congrArg Peer.frames hfields).trans hframes,
    (congrArg Peer.missed hfields).trans hcounts, congrArg Peer.lastSeq hfields,
    congrArg Peer.header hfields, congrArg Peer.wearer hfields, congrArg Peer.lastHeard hfields,
    fun l hl => ?_, fun c l hl => ?_, fun v c hl => ?_, fun hnot => ?_, fun hnot => ?_,
    fun j hj => ?_, ?_, ?_, ?_, ?_, ?_, ?_, x, ?_, rfl, ?_⟩
  · rw [exec_frameArrival_of_passes hpass, htaken]
  · rw [congrArg Peer.roster hfields, congrArg Peer.heard hfields, congrArg Peer.hailedMe hfields]
    simp [hx, Peer.refreshed, Peer.refresh, Peer.takeFrame, Peer.countFrame, hl, bodyRoster, bodyHeard,
      bodyHailedMe]
  · have hhail : f.header.kind = .hail := hpass.kind_hail.2 ⟨c, l, hl⟩
    rw [congrArg Peer.roster hfields, congrArg Peer.heard hfields, congrArg Peer.hailedMe hfields,
      congrArg Peer.hailMark hfields]
    simp [hx, Peer.refreshed, Peer.refresh, Peer.takeFrame, Peer.countFrame, hl, bodyRoster, bodyHeard,
      bodyHailedMe, hhail]
  · rw [congrArg Peer.roster hfields, congrArg Peer.heard hfields, congrArg Peer.hailedMe hfields]
    simp [hx, Peer.refreshed, Peer.refresh, Peer.takeFrame, Peer.countFrame, hl, bodyRoster, bodyHeard,
      bodyHailedMe]
  · have hhail : f.header.kind ≠ .hail := fun h =>
      let ⟨c, l, hl⟩ := hpass.kind_hail.1 h
      hnot c l hl
    rw [congrArg Peer.hailMark hfields]
    simp [hx, Peer.refreshed, Peer.refresh, Peer.takeFrame, Peer.countFrame, hhail]
  · have : q = y := Option.some_inj.1 (hq.symm.trans (State.handSections_of_other hnot ▸ hy))
    have hqueue : y.queue = x.queue := (congrArg Peer.queue hyfields :)
    exact (congrArg Peer.queue this).trans hqueue
  · rw [hpeer, hplacedOther j hj, hkeeps.peer, hothers j hj]
  · rw [State.flag_congr (s := u.handSections f) (by simp), hplaced.flags _ (by decide),
      hkeeps.others _ rfl]
    rfl
  · rw [hru, hplaced.rest.1, hdeparted]
    rfl
  · rw [hru, hplaced.rest.2, hwindow]
    rfl
  · exact (show _ = u.cu by simp).trans hkeeps.cu
  · exact (show _ = u.sl by simp).trans hkeeps.sl
  · exact (show _ = u.now by simp).trans hkeeps.now
  · rw [Peer.unseen, Peer.unseen, hfields]
    rfl
  · exact congrArg State.linkReact u.handSections_eq

/-! ## Where the sections go (R78, R79, R99) -/

theorem State.evaluateState_followed (s : State) :
    s.evaluateState.bu.followed = s.bu.followed := by
  unfold State.evaluateState
  cases s.bu.state with
  | off => rfl
  | claiming => dsimp only; split <;> simp [State.enterYielded]
  | active => dsimp only; split <;> simp [State.enterYielded, State.leaveActive]
  | yielded => dsimp only; split <;> simp [State.enterClaiming, State.enterYielded, apply_ite State.bu,
      apply_ite BridgeUnit.followed]

/-- An evaluation of the Bridge Unit flushes the downlink queue when it changes the followed bridge,
and leaves it alone otherwise. -/
theorem State.evaluateBridge_rq (s : State) : s.evaluateBridge.rq =
    if s.evaluateBridge.bu.followed = s.bu.followed then s.rq else s.rq.flush := by
  rw [State.evaluateBridge, State.evaluateFollowed_eq, s.evaluateState_followed]
  simp

theorem State.headerTaken_rq (s : State) (f : Frame) (mate : Prop) [Decidable mate] :
    (s.headerTaken f mate).rq =
      if (s.headerTaken f mate).bu.followed = s.bu.followed then s.rq else s.rq.flush := by
  have hbu : (s.headerTaken f mate).bu = (s.judged mate).bu := by
    rw [State.headerTaken_eq, State.asked]
    cases f.extras <;> simp only [Option.elim] <;> split <;> simp
  have hrq : (s.headerTaken f mate).rq = (s.judged mate).rq := by
    rw [State.headerTaken_eq, State.asked]
    cases f.extras <;> simp only [Option.elim] <;> split <;> simp
  rw [hrq, hbu, State.judged, State.evaluateBridge_rq]
  split <;> simp

theorem State.placeCall_queue (u : State) (n : Nat) (c : TalkSection) : (u.placeCall n c).rq.queue =
    if u.bu.followed = some n
    then (u.rq.queue.placeAll u.cfg.depth (numberBlocks c.first c.blocks)).1 else u.rq.queue := by
  have settled (d : Downlink) : d.settleSlip.queue = d.queue := by
    rw [Downlink.settleSlip]
    split <;> rfl
  rw [State.placeCall]
  split
  · simp [settled]
  · rfl

/-- Settles O18: the entry of the sender, refreshed, still has its queue. -/
theorem sectionsReachTheirQueues : Obligations.SectionsReachTheirQueues := by
  intro bytes f v c s p q hpass hkind hbody hroster hp hstate hqueue n
  have hcode : s.OwnCode f := fun code heard h => by rw [hbody] at h; cases h
  have hleave : f.header.kind ≠ .leave := by simp [hkind]
  set r := s.withPeer n (p.refreshed s f) with hr
  set u := r.headerTaken f (p.wearer = s.cfg.wearer ∨ f.header.wearer = s.cfg.wearer) with hu
  have htaken : s.takeArrival f = (u.placeVoice n v).placeCall n c := by
    rw [State.takeArrival_of_seen hleave hcode hp hstate, State.refreshPeer_eq hroster hp hstate,
      State.handSections, hbody]
  have hkeeps : r.Keeps u := State.keeps_headerTaken _ f _
  obtain ⟨y, hy, hyx⟩ := hkeeps.peer_eq_some
    (State.withPeer_peer (x := p.refreshed s f) hp (findPeer_some hp).2).1
  have hyqueue : (u.peer n).bind (·.queue) = some q := by
    have : y.queue = (p.refreshed s f).queue := (congrArg Peer.queue (Peer.eq_of_unseen hyx) :)
    rw [hy]
    exact this.trans hqueue
  have hcfg : u.cfg = s.cfg := by
    rw [State.cfg, hkeeps.sl]
    rfl
  have hrq : u.rq = if u.bu.followed = s.bu.followed then s.rq else s.rq.flush :=
    r.headerTaken_rq f _
  have hheld : u.rq.queue = if u.bu.followed = s.bu.followed then s.rq.queue else s.rq.queue.flush := by
    rw [hrq, apply_ite Downlink.queue]
    rfl
  set t := ((u.placeVoice n v).placeCall n c).linkReact with ht
  have hfollowed : t.bu.followed = u.bu.followed := by simp [ht]
  have hvoice := State.placeVoice_of_queue (t := v) hyqueue
  refine ⟨t, ?_, ?_, ?_, ?_⟩
  · rw [exec_frameArrival_of_passes hpass, htaken]
  · have hpeers : t.ru.peers = (u.placeVoice n v).ru.peers := by simp [ht]
    have hmine : (u.placeVoice n v).peer n = some { y with
        queue := some (q.placeAll u.cfg.depth (numberBlocks v.first v.blocks)).1 } := by
      rw [hvoice]
      refine (State.setFlagIf_peer _ _ _ n).trans ?_
      exact (findPeer_updatePeer_eq (fun x : Peer => { x with
        queue := some (q.placeAll u.cfg.depth (numberBlocks v.first v.blocks)).1 })
        (fun _ => rfl) _).trans (congrArg _ hy)
    rw [State.peer_congr hpeers, hmine, hcfg]
    rfl
  · have hrest : (u.placeVoice n v).rq = u.rq ∧ (u.placeVoice n v).bu = u.bu ∧
        (u.placeVoice n v).cfg = u.cfg := by simp [State.cfg]
    obtain ⟨hvrq, hvbu, hvcfg⟩ := hrest
    have : t.rq = ((u.placeVoice n v).placeCall n c).rq := by simp [ht]
    dsimp only
    rw [this, State.placeCall_queue, hvrq, hvbu, hvcfg, hcfg, hheld, hfollowed]
  · have hrest : (u.placeVoice n v).rq = u.rq ∧ (u.placeVoice n v).bu = u.bu ∧
        (u.placeVoice n v).cfg = u.cfg := by simp [State.cfg]
    obtain ⟨hvrq, hvbu, hvcfg⟩ := hrest
    have hflag : t.flag .queueSlide = ((u.placeVoice n v).placeCall n c).flag .queueSlide :=
      State.flag_congr (s := (u.placeVoice n v).placeCall n c) (by simp [ht]) _
    have hslide : (u.placeVoice n v).flag .queueSlide = (s.flag .queueSlide ||
        (q.placeAll s.cfg.depth (numberBlocks v.first v.blocks)).2) := by
      rw [hvoice, State.flag_setFlagIf, ← hcfg, decide_eq_true rfl, Bool.and_true]
      refine congrArg (· || _) ?_
      exact (hkeeps.others _ rfl)
    rw [hflag, State.placeCall_flag, hslide, hvrq, hvbu, hvcfg, hcfg, hheld, hfollowed]
    simp [or_assoc]

end Sys2Proof.Machine
end

section
/-! PROOFS. The LEAVE command (R41, R55, R75, R101, R140, R165). -/

namespace Sys2Proof.Machine

/-! ## Role and bridge with nobody in the table -/

section
variable {s : State}

theorem State.activeMates_of_no_peers (h : s.ru.peers = []) : s.activeMates = [] := by
  simp [State.activeMates, h]

theorem State.lowerClaimer_of_no_peers (h : s.ru.peers = []) : s.lowerClaimer = false := by
  simp [State.lowerClaimer, h]

/-- Without peers a STANDBY station that is not isolated leads, and a LEAD keeps its role (R49, R50). -/
theorem State.evaluateRole_of_no_peers (h : s.ru.peers = []) :
    s.evaluateRole = { s with wl := { s.wl with
      role := if s.wl.role = .standby ∧ s.ports.audioReady = true then .lead else s.wl.role } } := by
  have hnone : s.activeMates = [] := State.activeMates_of_no_peers h
  cases hrole : s.wl.role with
  | lead =>
    rw [State.evaluateRole_of_kept hrole (.inr (by simp [hnone]))]
    simp [← hrole]
  | standby =>
    rw [State.evaluateRole_of_standby hrole]
    cases hready : s.ports.audioReady with
    | true =>
      rw [State.takeLead_of_leaderless hready (by simp [hnone])]
      simp
    | false =>
      rw [State.takeLead_of_barred (.inl hready)]
      simp [← hrole]

/-- Without peers a YIELDED Bridge Unit claims afresh; the other states stay (R136, R140). -/
theorem State.evaluateState_of_no_peers (h : s.ru.peers = []) :
    s.evaluateState = { s with bu := { s.bu with
      state := if s.bu.state = .yielded then .claiming else s.bu.state
      settle := if s.bu.state = .yielded then some (s.now + 6000) else s.bu.settle } } := by
  have hnone := State.lowerClaimer_of_no_peers h
  by_cases hyielded : s.bu.state = .yielded
  · rw [State.evaluateState_of_freed hyielded hnone, State.enterClaiming_of_none_lower hnone,
      if_pos hyielded, if_pos hyielded]
  · rw [State.evaluateState_of_kept, if_neg hyielded, if_neg hyielded]
    cases hstate : s.bu.state with
    | off => exact .inl rfl
    | claiming => exact .inr (.inl ⟨.inl rfl, hnone⟩)
    | active => exact .inr (.inl ⟨.inr rfl, hnone⟩)
    | yielded => exact absurd hstate hyielded

theorem State.bridgeInView_of_no_peers (h : s.ru.peers = []) :
    s.bridgeInView = if s.bu.state = .active then some s.own else none := by
  rw [State.bridgeInView, h]
  rfl

end

/-! ## Slots and floor (R165) -/

/-- The Call Request Unit with every slot IDLE and only the station itself waiting. -/
def State.slotsIdle (s : State) : State :=
  { s with cq := { s.cq with
    slots := ⟨{ s.cq.slots.answer with timer := none, late := false },
      { s.cq.slots.hangup with timer := none, late := false },
      { s.cq.slots.floor with timer := none, late := false },
      { s.cq.slots.yield with timer := none, late := false }⟩
    floorQueue := s.cq.floorQueue.filter (· = s.own) } }

theorem State.leaveRequests_of_own_or_vacant {s : State}
    (h : ∀ n, s.cq.holder = some n → n = s.own) : s.leaveRequests = s.slotsIdle := by
  unfold State.leaveRequests
  dsimp only
  split
  · next n hn =>
    rw [if_pos (h n hn)]
    rfl
  · rfl

theorem State.leaveRequests_of_other {s : State} {n : Nat} (h : s.cq.holder = some n)
    (hn : n ≠ s.own) : s.leaveRequests = s.slotsIdle.endGrant := by
  unfold State.leaveRequests
  dsimp only
  split
  · next m hm =>
    rw [if_neg (fun hown => hn ((Option.some_inj.1 (h.symm.trans hm)).trans hown))]
    rfl
  · next hnone => exact absurd (h.symm.trans hnone) (by simp)

/-- What the station's own LEAVE makes of slots and floor (R165). -/
structure CallRequest.LeftBy (own now grant : Nat) (c d : CallRequest) : Prop where
  slots : ∀ k, d.slots.get k = ⟨(c.slots.get k).toggle, none, false⟩
  latches : d.latches = c.latches
  merges : d.merges = c.merges
  floor : ∀ n, d.holder = some n ∨ n ∈ d.floorQueue →
    n = own ∧ (c.holder = some n ∨ n ∈ c.floorQueue)
  kept : c.holder = some own → d.holder = some own ∧ d.grant = c.grant
  passed : ∀ n, c.holder = some n → n ≠ own → own ∈ c.floorQueue →
    d.holder = some own ∧ d.grant = some (now + 100000 * grant)

theorem State.slotsIdle_get (s : State) (k : ReqKind) :
    s.slotsIdle.cq.slots.get k = ⟨(s.cq.slots.get k).toggle, none, false⟩ := by
  cases k <;> rfl

theorem State.leaveRequests_leftBy (s : State) :
    CallRequest.LeftBy s.own s.now s.cfg.grantTime s.cq s.leaveRequests.cq := by
  by_cases hother : ∃ n, s.cq.holder = some n ∧ n ≠ s.own
  · obtain ⟨n, hn, hne⟩ := hother
    rw [State.leaveRequests_of_other hn hne]
    have hidle (m : Nat) (h : m ∈ s.slotsIdle.cq.floorQueue) : m = s.own ∧ m ∈ s.cq.floorQueue := by
      obtain ⟨hmem, hown⟩ := List.mem_filter.1 h
      exact ⟨of_decide_eq_true hown, hmem⟩
    cases hqueue : s.slotsIdle.cq.floorQueue with
    | nil =>
      rw [State.endGrant_of_none_waiting hqueue]
      refine ⟨s.slotsIdle_get, rfl, rfl, fun m hm => ?_, fun h => ?_, fun _ _ _ hown => ?_⟩
      · have : s.slotsIdle.cq.floorQueue = [] := hqueue
        obtain hm | hm := hm
        · exact absurd hm (by simp)
        · obtain ⟨hown, hmem⟩ := hidle m hm
          exact ⟨hown, .inr hmem⟩
      · exact absurd (Option.some_inj.1 (hn.symm.trans h)) hne
      · have : s.own ∈ s.slotsIdle.cq.floorQueue := List.mem_filter.2 ⟨hown, by simp⟩
        simp [hqueue] at this
    | cons m rest =>
      rw [State.endGrant_of_oldest hqueue]
      obtain ⟨hm, hmem⟩ := hidle m (by simp [hqueue])
      refine ⟨s.slotsIdle_get, rfl, rfl, fun j hj => ?_, fun h => ?_, fun _ _ _ _ =>
        ⟨congrArg some hm, congrArg some (State.grantEnds_eq _)⟩⟩
      · obtain hj | hj := hj
        · have : m = j := Option.some_inj.1 hj
          exact this ▸ ⟨hm, .inr hmem⟩
        · have : j ∈ s.slotsIdle.cq.floorQueue := by
            rw [hqueue]
            exact List.mem_cons_of_mem _ hj
          obtain ⟨hown, hjmem⟩ := hidle j this
          exact ⟨hown, .inr hjmem⟩
      · exact absurd (Option.some_inj.1 (hn.symm.trans h)) hne
  · have hown : ∀ n, s.cq.holder = some n → n = s.own := fun n hn =>
      Classical.byContradiction fun hne => hother ⟨n, hn, hne⟩
    rw [State.leaveRequests_of_own_or_vacant hown]
    refine ⟨s.slotsIdle_get, rfl, rfl, fun n hn => ?_, fun h => ⟨h, rfl⟩,
      fun n hn hne _ => absurd (hown n hn) hne⟩
    obtain hn | hn := hn
    · exact ⟨hown n hn, .inl hn⟩
    · obtain ⟨hmem, hdec⟩ := List.mem_filter.1 hn
      exact ⟨of_decide_eq_true hdec, .inr hmem⟩

/-! ## The LEAVE that is due -/

/-- A LEAVE due is the first choice (R72): it stays due, or has just been handed to the radio. -/
theorem State.linkReact_of_leaveDue {s : State} (h : s.sa.leaveDue = true) :
    (s.linkReact.sa.leaveDue = true ∨ s.linkReact.lp.access = .sending) ∧
    s.linkReact.sa.queue = s.sa.queue ∧ s.linkReact.sa.hailTimer = s.sa.hailTimer ∧
    s.linkReact.sa.hailDue = s.sa.hailDue ∧ s.linkReact.sa.sendDrops = s.sa.sendDrops := by
  have hchoose : s.chooseKind = some .leave := if_pos h
  rcases s.linkReact_cases with hsame | ⟨_, _, hidle⟩ | ⟨_, _, hdefer⟩ | ⟨k, _, _, hk, hover⟩
  · rw [hsame]
    exact ⟨.inl h, rfl, rfl, rfl, rfl⟩
  · rw [hidle]
    exact ⟨.inl h, rfl, rfl, rfl, rfl⟩
  · rw [hdefer]
    exact ⟨.inl h, rfl, rfl, rfl, rfl⟩
  · obtain rfl : k = .leave := Option.some_inj.1 (hk.symm.trans hchoose)
    rw [hover]
    exact ⟨.inr rfl, rfl, rfl, rfl, rfl⟩

/-- The state that LEAVE leaves to the Call Request Unit: everything forgotten, the role evaluated,
the bridge state evaluated. -/
def State.deserted (s : State) : State :=
  let t := s.leaveRoster.leaveSend.flushDownlink.evaluateRole
  { t with bu := { t.bu with
    state := if t.bu.state = .yielded then .claiming else t.bu.state
    settle := if t.bu.state = .yielded then some (t.now + 6000) else t.bu.settle } }

theorem State.deserted_eq (s : State) : s.deserted =
    { s with
      ru := { s.ru with peers := [], departed := [], window := none }
      sa := { s.sa with leaveDue := true, queue := [], hailDue := false, hailTimer := none }
      rq := s.rq.flush
      wl := { s.wl with
        role := if s.wl.role = .standby ∧ s.ports.audioReady = true then .lead else s.wl.role }
      bu := { s.bu with
        state := if s.bu.state = .yielded then .claiming else s.bu.state
        settle := if s.bu.state = .yielded then some (s.now + 6000) else s.bu.settle } } := by
  rw [State.deserted, State.evaluateRole_of_no_peers (by rfl)]
  rfl

theorem exec_leave (s : State) : exec .leave s = s.onCommand (fun s =>
    s.leaveRoster.leaveSend.flushDownlink.evaluateRole.evaluateBridge.leaveRequests.linkReact) := rfl

theorem exec_leave_of_running {s : State} (h : s.running) :
    exec .leave s = .next s.deserted.evaluateFollowed.leaveRequests.linkReact := by
  rw [exec_leave, State.onCommand_of_running h, State.evaluateBridge,
    State.evaluateState_of_no_peers (by simp; rfl)]
  rfl

/-- Settles O21: with the tables empty nobody is left to give way to, to yield to or to follow. -/
theorem leaveTearsDownTheGroup : Obligations.LeaveTearsDownTheGroup := by
  refine ⟨fun s h => (exec_leave s).trans (State.onCommand_of_not_running h _), fun s h => ?_⟩
  have hview : s.deserted.bridgeInView = if s.bu.state = .active then some s.own else none := by
    rw [State.bridgeInView_of_no_peers (by rw [s.deserted_eq]), s.deserted_eq]
    dsimp only
    by_cases hyielded : s.bu.state = .yielded
    · simp [hyielded]
    · rw [if_neg hyielded]
  set e := s.deserted.evaluateFollowed with he
  obtain ⟨hdue, hqueue, htimer, hhail, hdrops⟩ :=
    State.linkReact_of_leaveDue (s := e.leaveRequests) (by simp [he, s.deserted_eq])
  have hleft := e.leaveRequests_leftBy
  have hcq : e.cq = { s.cq with view := e.cq.view } := by
    rw [he, State.evaluateFollowed_eq, s.deserted_eq]
  have hown : e.own = s.own ∧ e.now = s.now ∧ e.cfg = s.cfg := by
    rw [he, State.evaluateFollowed_eq, s.deserted_eq]
    exact ⟨rfl, rfl, rfl⟩
  obtain ⟨hown, hnow, hcfg⟩ := hown
  rw [hown, hnow, hcfg, hcq] at hleft
  obtain ⟨hslots, hlatches, hmerges, hfloor, hkept, hpassed⟩ := hleft
  refine ⟨e.leaveRequests.linkReact, exec_leave_of_running h, hdue, ?_, ?_, ?_, ?_, ?_, ?_, ?_, ?_,
    ?_, ?_, ?_, ?_, ?_, ?_, ?_, ?_, ?_, ?_, ?_⟩
  · rw [hqueue]
    simp [he, s.deserted_eq]
  · rw [htimer]
    simp [he, s.deserted_eq]
  · rw [hhail]
    simp [he, s.deserted_eq]
  · rw [hdrops]
    simp [he, s.deserted_eq]
  · simp [he, s.deserted_eq]
  · have : e.leaveRequests.linkReact.rq = e.rq := by simp
    rw [this, he, State.evaluateFollowed_eq, s.deserted_eq]
    exact (ite_self (c := _ = _) s.rq.flush)
  · simp [he, s.deserted_eq]
  · have : e.leaveRequests.linkReact.bu = e.bu := by simp
    rw [this, he, State.evaluateFollowed_eq, hview, s.deserted_eq]
  · simpa using hslots
  · simpa using hlatches
  · simpa using hmerges
  · simpa using hfloor
  · simpa using hkept
  · simpa using hpassed
  · have : e.leaveRequests.cl.outcomes = e.cl.outcomes := by
      by_cases hother : ∃ n, e.cq.holder = some n ∧ n ≠ e.own
      · obtain ⟨n, hn, hne⟩ := hother
        rw [State.leaveRequests_of_other hn hne]
        simp [State.slotsIdle]
      · rw [State.leaveRequests_of_own_or_vacant fun n hn =>
          Classical.byContradiction fun hne => hother ⟨n, hn, hne⟩]
        rfl
    have hcl : e.leaveRequests.linkReact.cl = e.leaveRequests.cl := by simp
    rw [hcl, this, he, State.evaluateFollowed_eq, s.deserted_eq]
  · simp [he, s.deserted_eq]
  · simp [he, s.deserted_eq]
  · simp [he, s.deserted_eq]
  · simp [he, s.deserted_eq]

end Sys2Proof.Machine
end

section
/-! PROOFS. What each command can come to: nothing, or the one effect of its row. -/

namespace Sys2Proof.Machine

section
variable {s t : State}

/-- A command has one outcome. -/
theorem eq_of_exec {c : Instr} {u : State} (h : exec c s = .next t) (hu : exec c s = .next u) :
    t = u := Host.Outcome.next.inj (h.symm.trans hu)

theorem reset_cases (h : exec .reset s = .next t) : t = s.heldReset :=
  (Host.Outcome.next.inj h).symm

theorem resetRelease_cases (h : exec .resetRelease s = .next t) :
    t = s ∨ (s.ports.resetHeld = true ∧ t = { s with
      ports := { s.ports with resetHeld := false }, sl := { s.sl with reading := true } }) := by
  obtain rfl := Host.Outcome.next.inj h
  split
  · next hheld => exact .inr ⟨hheld, rfl⟩
  · exact .inl rfl

theorem loadingComplete_cases {img : Image} (h : exec (.loadingComplete img) s = .next t) :
    t = s ∨ (s.sl.state = .loading ∧ ∃ f, t = s.halt f) ∨
    (s.sl.state = .loading ∧ s.sl.reading = true ∧ imageFault img = none ∧
      t = (s.startRunning img).linkReact) := by
  obtain rfl := Host.Outcome.next.inj h
  split
  · next hload =>
    obtain ⟨hloading, hreading⟩ := hload
    cases hfault : imageFault img with
    | some f => exact .inr (.inl ⟨hloading, f, rfl⟩)
    | none => exact .inr (.inr ⟨hloading, hreading, rfl, rfl⟩)
  · exact .inl rfl

theorem frameArrival_cases {bytes : List Byte} {good : Bool}
    (h : exec (.frameArrival bytes good) s = .next t) :
    t = s ∨ (s.linkListens = true ∧ t = (s.filterFrame bytes good).linkReact) := by
  obtain rfl := Host.Outcome.next.inj h
  split
  · next hlistens => exact .inr ⟨hlistens, rfl⟩
  · exact .inl rfl

/-- A medium event moves the level, and of the Link Port at most the slot or the idle mark. -/
theorem mediumBusy_cases (h : exec .mediumBusy s = .next t) :
    t = { s with ports := { s.ports with mediumBusy := true } } ∨ (s.running ∧
      t = { s with ports := { s.ports with mediumBusy := true },
                   lp := { s.lp with slotEnd := none } }) := by
  obtain rfl := Host.Outcome.next.inj h
  split
  · next hlistens =>
    simp only [State.linkListens, Bool.and_eq_true, decide_eq_true_eq] at hlistens
    obtain ⟨hrun, _⟩ := hlistens
    exact .inr ⟨hrun, rfl⟩
  · exact .inl rfl

theorem mediumIdle_cases (h : exec .mediumIdle s = .next t) :
    t = { s with ports := { s.ports with mediumBusy := false } } ∨ (s.running ∧
      t = { s with ports := { s.ports with mediumBusy := false },
                   lp := { s.lp with idleMark := some s.now } }) := by
  obtain rfl := Host.Outcome.next.inj h
  split
  · next hlistens =>
    simp only [State.linkListens, Bool.and_eq_true, decide_eq_true_eq] at hlistens
    obtain ⟨⟨hrun, _⟩, _⟩ := hlistens
    exact .inr ⟨hrun, rfl⟩
  · exact .inl rfl

theorem quietGapReached_cases (h : exec .quietGapReached s = .next t) :
    t = s ∨ ∃ m, s.lp.access = .defer ∧
      ((s.lp.backoff.getD 0 = 0 ∧ t = (s.catchUp (m + quietGap)).ask) ∨
      (s.lp.backoff.getD 0 ≠ 0 ∧ t = { s.catchUp (m + quietGap) with
        lp := { s.lp with slotEnd := some (m + quietGap + backoffSlot) } })) := by
  by_cases hnone : s.lp.access ≠ .defer ∨ s.ports.mediumBusy = true ∨ s.lp.idleMark = none ∨
      s.lp.slotEnd ≠ none
  · exact .inl (eq_of_exec h (exec_quietGapReached_of_none hnone))
  · simp only [ne_eq, not_or, Decidable.not_not, Bool.not_eq_true] at hnone
    obtain ⟨hdefer, hidle, hmark, hslot⟩ := hnone
    obtain ⟨m, hm⟩ := Option.ne_none_iff_exists'.1 hmark
    obtain rfl := eq_of_exec h (exec_quietGapReached_of_defer hdefer hidle hm hslot)
    refine .inr ⟨m, hdefer, ?_⟩
    split
    · next hzero => exact .inl ⟨hzero, rfl⟩
    · next hleft => exact .inr ⟨hleft, rfl⟩

/-- The state in which a backoff slot has ended. -/
def State.slotEnded (s : State) (e : Nat) : State :=
  { s.catchUp e with lp := { s.lp with
    backoff := some (s.lp.backoff.getD 0 - 1), slotEnd := some (e + backoffSlot) } }

theorem backoffSlotEnd_cases (h : exec .backoffSlotEnd s = .next t) :
    t = s ∨ ∃ e, s.lp.access = .defer ∧ s.lp.slotEnd = some e ∧
      ((s.lp.backoff.getD 0 - 1 = 0 ∧ t = (s.slotEnded e).ask) ∨
      (s.lp.backoff.getD 0 - 1 ≠ 0 ∧ t = s.slotEnded e)) := by
  by_cases hnone : s.lp.access ≠ .defer ∨ s.lp.slotEnd = none
  · exact .inl (eq_of_exec h (exec_backoffSlotEnd_of_none hnone))
  · simp only [ne_eq, not_or, Decidable.not_not] at hnone
    obtain ⟨hdefer, hslot⟩ := hnone
    obtain ⟨e, he⟩ := Option.ne_none_iff_exists'.1 hslot
    obtain rfl := eq_of_exec h (exec_backoffSlotEnd_of_slot hdefer he)
    refine .inr ⟨e, hdefer, he, ?_⟩
    dsimp only
    split
    · next hzero => exact .inl ⟨hzero, rfl⟩
    · next hleft => exact .inr ⟨hleft, rfl⟩

/-- The Link Port in TURNAROUND, the frame sent counted (R10). -/
def State.frameSent (s : State) : State :=
  { s with lp := { s.lp with access := .turnaround, cw := cwRest,
                             framesSent := countUp s.lp.framesSent 1, sendDoneAt := some s.now } }

theorem sendDone_cases (h : exec .sendDone s = .next t) :
    t = s ∨ (s.lp.access = .sending ∧
      (t = s.frameSent ∨ t = s.frameSent.endTurnaround s.now)) := by
  by_cases haccess : s.lp.access = .sending
  · obtain rfl := eq_of_exec h (exec_sendDone_of_sending haccess)
    refine .inr ⟨haccess, ?_⟩
    dsimp only
    split
    · exact .inr rfl
    · exact .inl rfl
  · exact .inl (eq_of_exec h (exec_sendDone_of_not_sending haccess))

theorem turnaroundExpiry_cases (h : exec .turnaroundExpiry s = .next t) :
    t = s ∨ ∃ d, s.lp.access = .turnaround ∧ t = (s.catchUp (d + s.guardTicks)).endTurnaround d := by
  by_cases hnone : s.lp.access ≠ .turnaround ∨ s.lp.sendDoneAt = none
  · exact .inl (eq_of_exec h (exec_turnaroundExpiry_of_none hnone))
  · simp only [ne_eq, not_or, Decidable.not_not] at hnone
    obtain ⟨haccess, hsent⟩ := hnone
    obtain ⟨d, hd⟩ := Option.ne_none_iff_exists'.1 hsent
    exact .inr ⟨d, haccess, eq_of_exec h (exec_turnaroundExpiry_of_turnaround haccess hd)⟩

theorem blockBoundary_cases {mic call : Block} (h : exec (.blockBoundary mic call) s = .next t) :
    t = s ∨ (s.ports.audioReady = true ∧ ((¬s.running ∧ t = s.silentBoundary) ∨
      (s.running ∧ t = (s.afterMix mic call).linkReact))) := by
  cases hready : s.ports.audioReady with
  | false => exact .inl (eq_of_exec h (exec_blockBoundary_of_isolated hready))
  | true =>
    by_cases hrun : s.running
    · exact .inr ⟨rfl, .inr ⟨hrun, eq_of_exec h (exec_blockBoundary_of_running hready hrun)⟩⟩
    · exact .inr ⟨rfl, .inl ⟨hrun, eq_of_exec h (exec_blockBoundary_of_not_running hready hrun)⟩⟩

theorem audioReadyFall_cases (h : exec .audioReadyFall s = .next t) :
    t = s ∨ (¬s.running ∧ t = s.isolate) ∨
    (s.running ∧ t = s.isolate.cutSpurt.enterOff.evaluateFollowed.linkReact) := by
  cases hready : s.ports.audioReady with
  | false => exact .inl (eq_of_exec h (exec_audioReadyFall_of_isolated hready))
  | true =>
    obtain rfl := eq_of_exec h (exec_audioReadyFall_of_ready hready)
    split
    · next hrun => exact .inr (.inr ⟨hrun, rfl⟩)
    · next hrun => exact .inr (.inl ⟨hrun, rfl⟩)

theorem audioReadyRise_cases (h : exec .audioReadyRise s = .next t) :
    t = s ∨ (s.ports.audioReady = false ∧ ((¬s.running ∧ t = s.rejoin) ∨ (s.running ∧
      t = s.rejoin.flushAll.restMix.freshScore.claimAtRise.evaluateFollowed.linkReact))) := by
  cases hready : s.ports.audioReady with
  | true => exact .inl (eq_of_exec h (exec_audioReadyRise_of_ready hready))
  | false =>
    obtain rfl := eq_of_exec h (exec_audioReadyRise_of_isolated hready)
    split
    · next hrun => exact .inr ⟨rfl, .inr ⟨hrun, rfl⟩⟩
    · next hrun => exact .inr ⟨rfl, .inl ⟨hrun, rfl⟩⟩

theorem join_cases (h : exec .join s = .next t) :
    t = s ∨ (s.running ∧ ((s.ru.window ≠ none ∧ t = s.startWindow) ∨
      (s.ru.window = none ∧ t = s.startWindow.freshWindow.hailOpen.linkReact))) := by
  by_cases hrun : s.running
  · by_cases hopen : s.ru.window = none
    · exact .inr ⟨hrun, .inr ⟨hopen, eq_of_exec h (exec_join_of_closed hrun hopen)⟩⟩
    · exact .inr ⟨hrun, .inl ⟨hopen, eq_of_exec h (exec_join_of_open hrun hopen)⟩⟩
  · exact .inl (eq_of_exec h (exec_join_of_not_running hrun))

/-- A command byte is acted on while RUNNING, or discarded. -/
theorem onCommand_cases {c : Instr} {f : State → State} (hc : exec c s = s.onCommand f)
    (h : exec c s = .next t) : t = s ∨ (s.running ∧ t = f s) := by
  by_cases hrun : s.running
  · exact .inr ⟨hrun, eq_of_exec h (hc.trans (State.onCommand_of_running hrun f))⟩
  · exact .inl (eq_of_exec h (hc.trans (State.onCommand_of_not_running hrun f)))

theorem leave_cases (h : exec .leave s = .next t) :
    t = s ∨ (s.running ∧ t = s.deserted.evaluateFollowed.leaveRequests.linkReact) := by
  by_cases hrun : s.running
  · exact .inr ⟨hrun, eq_of_exec h (exec_leave_of_running hrun)⟩
  · exact .inl (eq_of_exec h ((exec_leave s).trans (State.onCommand_of_not_running hrun _)))

theorem muteOn_cases (h : exec .muteOn s = .next t) :
    t = s ∨ (s.running ∧ t = s.withOwnMute true) := onCommand_cases (exec_muteOn s) h

theorem muteOff_cases (h : exec .muteOff s = .next t) :
    t = s ∨ (s.running ∧ t = s.withOwnMute false) := onCommand_cases (exec_muteOff s) h

/-- The call flag set or cleared. -/
def State.withCallFlag (s : State) (b : Bool) : State := { s with bu := { s.bu with callFlag := b } }

theorem callOn_cases (h : exec .callOn s = .next t) :
    t = s ∨ (s.running ∧ ((s.bu.state = .off ∧ s.ports.audioReady = true ∧
        t = (s.withCallFlag true).enterClaiming.evaluateFollowed) ∨
      (¬(s.bu.state = .off ∧ s.ports.audioReady = true) ∧
        t = (s.withCallFlag true).evaluateFollowed))) := by
  rcases onCommand_cases (exec_callOn s) h with hsame | ⟨hrun, rfl⟩
  · exact .inl hsame
  · refine .inr ⟨hrun, ?_⟩
    have hready : s.isolated = false ↔ s.ports.audioReady = true := by simp [State.isolated]
    by_cases hoff : s.bu.state = .off ∧ s.ports.audioReady = true
    · obtain ⟨hstate, haudio⟩ := id hoff
      exact .inl ⟨hstate, haudio, congrArg State.evaluateFollowed
        (if_pos ⟨hstate, hready.2 haudio⟩)⟩
    · exact .inr ⟨hoff, congrArg State.evaluateFollowed
        (if_neg fun ⟨hstate, hiso⟩ => hoff ⟨hstate, hready.1 hiso⟩)⟩

theorem callOff_cases (h : exec .callOff s = .next t) :
    t = s ∨ (s.running ∧ t = (s.withCallFlag false).enterOff.evaluateFollowed.linkReact) :=
  onCommand_cases (exec_callOff s) h

theorem settleExpiry_cases (h : exec .settleExpiry s = .next t) :
    t = s ∨ ∃ e, s.bu.state = .claiming ∧ ((s.lowerClaimer = true ∧
        t = (s.catchUp e).enterYielded.evaluateFollowed.linkReact) ∨
      (s.lowerClaimer = false ∧ t = (s.catchUp e).enterActive.evaluateFollowed.linkReact)) := by
  by_cases hnone : s.bu.state ≠ .claiming ∨ s.bu.settle = none
  · exact .inl (eq_of_exec h (exec_settleExpiry_of_none hnone))
  · simp only [ne_eq, not_or, Decidable.not_not] at hnone
    obtain ⟨hstate, hsettle⟩ := hnone
    obtain ⟨e, he⟩ := Option.ne_none_iff_exists'.1 hsettle
    obtain rfl := eq_of_exec h (exec_settleExpiry_of_claiming hstate he)
    refine .inr ⟨e, hstate, ?_⟩
    cases hlower : s.lowerClaimer with
    | true => exact .inl ⟨rfl, rfl⟩
    | false => exact .inr ⟨rfl, rfl⟩

theorem req_cases {k : ReqKind} (h : exec (.req k) s = .next t) :
    t = s ∨ (s.running ∧ ((s.bu.state = .active ∧ t = (s.requestHere k).linkReact) ∨
      (s.bu.state ≠ .active ∧ t = (s.requestAfar k).linkReact))) := by
  rcases onCommand_cases (exec_req k s) h with hsame | ⟨hrun, rfl⟩
  · exact .inl hsame
  · refine .inr ⟨hrun, ?_⟩
    by_cases hactive : s.bu.state = .active
    · exact .inl ⟨hactive, congrArg State.linkReact (if_pos hactive)⟩
    · exact .inr ⟨hactive, congrArg State.linkReact (if_neg hactive)⟩

theorem done_cases {k : LatchKind} (h : exec (.done k) s = .next t) :
    t = s ∨ (s.running ∧ t = { s with cq := { s.cq with latches := s.cq.latches.set k false } }) :=
  onCommand_cases (exec_done k s) h

theorem status_cases (h : exec .status s = .next t) :
    t = s ∨ (s.pairOnItsWay = false ∧ t = s.formPair) := by
  by_cases hload : s.sl.state = .loading
  · exact .inl (eq_of_exec h (exec_status_of_loading hload))
  · obtain rfl := eq_of_exec h (exec_status_of_loaded hload)
    cases hpair : s.pairOnItsWay with
    | true => exact .inl rfl
    | false => exact .inr ⟨rfl, rfl⟩

theorem unknownCommand_cases {b : Byte} {stop : Bool}
    (h : exec (.unknownCommand b stop) s = .next t) :
    t = s ∨ (s.running ∧ t = { s with cl := { s.cl with
      unknownCommands := countUp s.cl.unknownCommands 1 } }) := by
  by_cases hnamed : stop = false ∨ commandOfByte b = none
  · exact onCommand_cases (exec_unknownCommand_of_unknown hnamed) h
  · simp only [not_or, Bool.not_eq_false] at hnamed
    obtain ⟨rfl, hc⟩ := hnamed
    obtain ⟨c, hc⟩ := Option.ne_none_iff_exists'.1 hc
    rw [exec_unknownCommand_of_named hc] at h
    cases h

theorem reportSent_cases (h : exec .reportSent s = .next t) :
    t = s ∨ ∃ r, s.cl.sending = some r ∧ t = { s with cl := { s.cl with
      sending := s.cl.waiting.head?, waiting := s.cl.waiting.drop 1 } } := by
  cases hr : s.cl.sending with
  | none => exact .inl (eq_of_exec h (exec_reportSent_of_none hr))
  | some r => exact .inr ⟨r, rfl, eq_of_exec h (exec_reportSent_of_some hr)⟩

theorem joinWindowExpiry_cases (h : exec .joinWindowExpiry s = .next t) :
    t = s ∨ ∃ e, s.ru.window = some e ∧ t = (s.catchUp e).closeWindow.linkReact := by
  cases he : s.ru.window with
  | none => exact .inl (eq_of_exec h (exec_joinWindowExpiry_of_closed he))
  | some e => exact .inr ⟨e, rfl, eq_of_exec h (exec_joinWindowExpiry_of_open he)⟩

/-- HAIL due again while the window is open (R70). -/
def State.hailAgain (s : State) (e : Nat) : State :=
  { s.catchUp e with sa := { s.sa with
    hailTimer := none, hailDue := s.sa.hailDue || s.ru.window.isSome } }

/-- A scheduled PRESENCE due (R69). -/
def State.presenceAgain (s : State) (e : Nat) : State :=
  { s.catchUp e with sa := { s.sa with
    presenceTimer := none, scheduledDue := true, promotionTimer := some (e + presenceInterval) } }

/-- A scheduled PRESENCE promoted (R69). -/
def State.promoted (s : State) (e : Nat) : State :=
  { s.catchUp e with sa := { s.sa with
    scheduledDue := false, promptDue := true, promotionTimer := none } }

theorem hailTimerExpiry_cases (h : exec .hailTimerExpiry s = .next t) :
    t = s ∨ ∃ e, s.sa.hailTimer = some e ∧ t = (s.hailAgain e).linkReact := by
  cases he : s.sa.hailTimer with
  | none => exact .inl (eq_of_exec h (exec_hailTimerExpiry_of_none he))
  | some e => exact .inr ⟨e, rfl, eq_of_exec h (exec_hailTimerExpiry_of_some he)⟩

theorem presenceTimerExpiry_cases (h : exec .presenceTimerExpiry s = .next t) :
    t = s ∨ ∃ e, s.sa.presenceTimer = some e ∧ t = (s.presenceAgain e).linkReact := by
  cases he : s.sa.presenceTimer with
  | none => exact .inl (eq_of_exec h (exec_presenceTimerExpiry_of_none he))
  | some e => exact .inr ⟨e, rfl, eq_of_exec h (exec_presenceTimerExpiry_of_some he)⟩

theorem presencePromotion_cases (h : exec .presencePromotion s = .next t) :
    t = s ∨ ∃ e, s.sa.promotionTimer = some e ∧ t = s.promoted e := by
  cases he : s.sa.promotionTimer with
  | none => exact .inl (eq_of_exec h (exec_presencePromotion_of_none he))
  | some e => exact .inr ⟨e, rfl, eq_of_exec h (exec_presencePromotion_of_some he)⟩

/-- An ADMITTED entry turned LOST, with PEER_LOST, before its notice (R35). -/
def State.peerLost (s : State) (n e : Nat) : State :=
  ((s.catchUp e).mapPeer n (fun p => { p with
    state := .lost, lostAt := some (s.catchUp e).now })).setFlag .peerLost

theorem peerLossExpiry_cases {n : Nat} (h : exec (.peerLossExpiry n) s = .next t) :
    t = s ∨ ∃ p e, s.peer n = some p ∧ p.state = .admitted ∧
      t = (s.peerLost n e).notice n (s.isMate p) := by
  by_cases hother : ∀ p, s.peer n = some p → p.state ≠ .admitted
  · exact .inl (eq_of_exec h (exec_peerLossExpiry_of_other hother))
  · simp only [ne_eq, not_forall, Decidable.not_not] at hother
    obtain ⟨p, hp, hadm⟩ := hother
    refine .inr ⟨p, p.lastHeard + lossTime, hp, hadm, ?_⟩
    have hexec : exec (.peerLossExpiry n) s = .next
        ((s.peerLost n (p.lastHeard + lossTime)).notice n (s.isMate p)) := by
      simp only [exec, execPeerLossExpiry, hp, hadm, if_true]
      rfl
    exact eq_of_exec h hexec

theorem lostRemovalExpiry_cases {n : Nat} (h : exec (.lostRemovalExpiry n) s = .next t) :
    t = s ∨ ∃ p e, s.peer n = some p ∧ p.state = .lost ∧ t = (s.catchUp e).removePeer p := by
  cases hp : s.peer n with
  | none => exact .inl (eq_of_exec h (exec_lostRemovalExpiry_of_other (by simp [hp])))
  | some p =>
    by_cases hlost : p.state = .lost
    · cases hl : p.lostAt with
      | some l => exact .inr ⟨p, _, rfl, hlost, eq_of_exec h (exec_lostRemovalExpiry_of_lost hp hlost hl)⟩
      | none =>
        refine .inl (eq_of_exec h ?_)
        simp only [exec, execLostRemovalExpiry, hp, hlost, hl]
    · exact .inl (eq_of_exec h (exec_lostRemovalExpiry_of_other (by simp [hp, hlost])))

theorem hailedExpiry_cases {n : Nat} (h : exec (.hailedExpiry n) s = .next t) :
    t = s ∨ ∃ p e, s.peer n = some p ∧ p.state = .hailed ∧ t = (s.catchUp e).removePeer p := by
  by_cases hother : ∀ p, s.peer n = some p → p.state ≠ .hailed
  · exact .inl (eq_of_exec h (exec_hailedExpiry_of_other hother))
  · simp only [ne_eq, not_forall, Decidable.not_not] at hother
    obtain ⟨p, hp, hhailed⟩ := hother
    exact .inr ⟨p, _, hp, hhailed, eq_of_exec h (exec_hailedExpiry_of_hailed hp hhailed)⟩

theorem departedHoldExpiry_cases {n : Nat} (h : exec (.departedHoldExpiry n) s = .next t) :
    t = s ∨ ∃ e, t = (s.catchUp e).undepart n := by
  cases hd : s.ru.departed.find? (fun d => d.station = n) with
  | none => exact .inl (eq_of_exec h (exec_departedHoldExpiry_of_none hd))
  | some d => exact .inr ⟨_, eq_of_exec h (exec_departedHoldExpiry_of_some hd)⟩

theorem requestTimeout_cases {k : ReqKind} (h : exec (.requestTimeout k) s = .next t) :
    t = s ∨ ∃ e, t = ((s.catchUp e).setSlot k { s.cq.slots.get k with
      timer := none, late := true }).record k .timeout := by
  cases he : (s.cq.slots.get k).timer with
  | none => exact .inl (eq_of_exec h (exec_requestTimeout_of_idle he))
  | some e => exact .inr ⟨e, eq_of_exec h (exec_requestTimeout_of_pending he)⟩

theorem floorGrantExpiry_cases (h : exec .floorGrantExpiry s = .next t) :
    t = s ∨ ∃ e, s.cq.grant = some e ∧ t = (s.catchUp e).endGrant := by
  cases he : s.cq.grant with
  | none => exact .inl (eq_of_exec h (exec_floorGrantExpiry_of_none he))
  | some e => exact .inr ⟨e, rfl, eq_of_exec h (exec_floorGrantExpiry_of_some he)⟩

theorem floorViewExpiry_cases (h : exec .floorViewExpiry s = .next t) :
    t = s ∨ ∃ e, t = { s.catchUp e with cq := { s.cq with view := none } } := by
  cases hv : s.cq.view with
  | none => exact .inl (eq_of_exec h (exec_floorViewExpiry_of_none hv))
  | some v => exact .inr ⟨v.timer, eq_of_exec h (exec_floorViewExpiry_of_some hv)⟩

end

end Sys2Proof.Machine
end

section
/-! PROOFS. Every receive queue keeps its bounds, and the downlink its slip state (chapter 5). -/

namespace Sys2Proof.Machine

/-! ## Entries in the window (R76) -/

/-- Entries in ascending order within 16 sequence numbers from `next`. -/
def Windowed (next : Seq) (l : List RxEntry) : Prop :=
  (∀ e ∈ l, seqAhead next e.seq < 16 ∧ e.level ≤ 32768) ∧
  l.Pairwise (fun a b => seqAhead next a.seq < seqAhead next b.seq)

/-- Entries stay in the window of another *next* that keeps their order. -/
theorem Windowed.rebase {n m : Seq} {l : List RxEntry} (h : Windowed n l)
    (hin : ∀ x ∈ l, seqAhead m x.seq < 16)
    (hmono : ∀ x ∈ l, ∀ y ∈ l, seqAhead n x.seq < seqAhead n y.seq →
      seqAhead m x.seq < seqAhead m y.seq) : Windowed m l := by
  obtain ⟨hentries, hsorted⟩ := h
  exact ⟨fun x hx => ⟨hin x hx, (hentries x hx).2⟩, hsorted.imp_of_mem fun hx hy => hmono _ hx _ hy⟩

theorem Windowed.filter {n : Seq} {l : List RxEntry} (h : Windowed n l) (p : RxEntry → Bool) :
    Windowed n (l.filter p) :=
  ⟨fun e he => h.1 e (List.mem_of_mem_filter he), h.2.filter _⟩

theorem Windowed.single {e : RxEntry} (h : e.level ≤ 32768) : Windowed e.seq [e] := by
  refine ⟨fun x hx => ?_, List.pairwise_singleton _ _⟩
  obtain rfl := List.mem_singleton.1 hx
  simp [seqAhead, h]

/-- Past an entry that is not held every other stays in the window (R88, R90, R95). -/
theorem Windowed.succ {n : Seq} {l : List RxEntry} (h : Windowed n l) (hn : ∀ x ∈ l, x.seq ≠ n) :
    Windowed (n + 1) l := by
  have one (x : RxEntry) (hx : x ∈ l) : seqAhead (n + 1) x.seq + 1 = seqAhead n x.seq := by
    have hne := hn x hx
    simp only [seqAhead]
    bv_omega
  refine h.rebase (fun x hx => ?_) fun x hx y hy hlt => ?_
  · have := (h.1 x hx).1
    have := one x hx
    omega
  · have := one x hx
    have := one y hy
    omega

/-- From the first entry on all others stay in the window (R89). -/
theorem Windowed.from_first {n : Seq} {e : RxEntry} {l : List RxEntry} (h : Windowed n (e :: l)) :
    Windowed e.seq (e :: l) := by
  have behind (x : RxEntry) (hx : x ∈ e :: l) :
      seqAhead e.seq x.seq + seqAhead n e.seq = seqAhead n x.seq := by
    have hle : seqAhead n e.seq ≤ seqAhead n x.seq := by
      rcases List.mem_cons.1 hx with rfl | hx
      · exact le_rfl
      · exact (List.rel_of_pairwise_cons h.2 hx).le
    simp only [seqAhead] at hle ⊢
    bv_omega
  refine h.rebase (fun x hx => ?_) fun x hx y hy hlt => ?_
  · have := (h.1 x hx).1
    have := behind x hx
    omega
  · have := behind x hx
    have := behind y hy
    omega

/-! ## A queue and its counts (R77, R103) -/

theorem RxQueue.Ok.windowed {q : RxQueue} (h : q.Ok) : Windowed q.next q.entries := by
  obtain ⟨_, _, hentries, hsorted, _⟩ := h
  exact ⟨hentries, hsorted⟩

theorem RxQueue.Ok.counts_ok {q : RxQueue} (h : q.Ok) : q.counts.Ok := by
  obtain ⟨_, _, _, _, _, _, hcounts⟩ := h
  exact hcounts

/-- A queue out of IDLE keeps its bounds by its window, its wait and its counts. -/
theorem RxQueue.ok_of_windowed {q : RxQueue} (hmode : q.mode ≠ .idle)
    (hprime : q.mode = .priming → q.entries ≠ []) (hwindow : Windowed q.next q.entries)
    (hwait : q.primeWait ≤ 8) (hconceal : q.conceal ≤ 255) (hcounts : q.counts.Ok) : q.Ok :=
  ⟨fun h => absurd h hmode, hprime, hwindow.1, hwindow.2, hwait, hconceal, hcounts⟩

theorem RxQueue.cleared_ok {c : QueueCounts} (h : c.Ok) : (RxQueue.cleared c).Ok :=
  ⟨fun _ => rfl, nofun, nofun, .nil, Nat.zero_le _, Nat.zero_le _, h⟩

theorem RxQueue.Ok.flush {q : RxQueue} (h : q.Ok) : q.flush.Ok := RxQueue.cleared_ok h.counts_ok

/-! ## Placement (R80 to R85) -/

section
variable {q : RxQueue} {e : RxEntry} {depth : Nat}

theorem RxQueue.start_ok (hdepth : depth ≤ 8) (he : e.level ≤ 32768) (hcounts : q.counts.Ok) :
    (q.start depth e).Ok :=
  RxQueue.ok_of_windowed (q := q.start depth e) nofun (fun _ => List.cons_ne_nil _ _)
    (Windowed.single he) hdepth (Nat.zero_le _) hcounts

theorem RxQueue.Ok.countLate (h : q.Ok) (hmode : q.mode ≠ .idle) : q.countLate.Ok := by
  obtain ⟨hlate, hcounts⟩ := h.counts_ok
  obtain ⟨-, hprime, hentries, hsorted, hwait, hconceal, -⟩ := h
  exact RxQueue.ok_of_windowed (q := q.countLate) hmode hprime ⟨hentries, hsorted⟩ hwait hconceal
    ⟨min_le_left _ _, hcounts⟩

/-- A block inside the window goes in at its place (R81). -/
theorem RxQueue.Ok.insert (h : q.Ok) (hmode : q.mode ≠ .idle) (he : e.level ≤ 32768)
    (hoff : q.offset e.seq < 16) (hnew : ∀ x ∈ q.entries, x.seq ≠ e.seq) : (q.insert e).Ok := by
  obtain ⟨before, after, hsplit, hins, hbefore, hafter⟩ := h.insert_between hnew
  obtain ⟨-, -, hentries, hsorted, hwait, hconceal, hcounts⟩ := h
  rw [hins]
  refine RxQueue.ok_of_windowed (q := { q with entries := before ++ e :: after }) hmode
    (fun _ => by simp) ⟨fun x hx => ?_, ?_⟩ hwait hconceal hcounts
  · rw [List.mem_append, List.mem_cons, or_left_comm, ← List.mem_append, ← hsplit] at hx
    rcases hx with rfl | hx
    · exact ⟨hoff, he⟩
    · exact hentries x hx
  · rw [hsplit, List.pairwise_append] at hsorted
    obtain ⟨hsb, hsa, hba⟩ := hsorted
    refine List.pairwise_append.2 ⟨hsb, List.pairwise_cons.2 ⟨hafter, hsa⟩, fun x hx y hy => ?_⟩
    rcases List.mem_cons.1 hy with rfl | hy
    · exact hbefore x hx
    · exact hba x hx y hy

/-- A PRIMING queue moves back to an earlier block when the span allows it (R83). -/
theorem RxQueue.Ok.placeBefore (h : q.Ok) (hmode : q.mode = .priming) (he : e.level ≤ 32768)
    (hoff : 32768 ≤ q.offset e.seq) : (q.placeBefore e).Ok := by
  have hne : q.mode ≠ .idle := by simp [hmode]
  cases hlast : q.entries.getLast? with
  | none =>
    rw [RxQueue.placeBefore, hlast]
    exact h.countLate hne
  | some last =>
    by_cases hspan : seqAhead e.seq last.seq + 1 ≤ windowSize
    · rw [RxQueue.placeBefore_of_near hlast hspan]
      have hw := h.windowed
      obtain ⟨-, -, hentries, hsorted, hwait, hconceal, hcounts⟩ := h
      have hmem : last ∈ q.entries := List.mem_of_getLast? hlast
      have back (x : RxEntry) (hx : x ∈ q.entries) :
          seqAhead e.seq x.seq = seqAhead q.next x.seq + (65536 - seqAhead q.next e.seq) ∧
          seqAhead e.seq x.seq < 16 := by
        have hle : seqAhead q.next x.seq ≤ seqAhead q.next last.seq := by
          obtain ⟨l, hl⟩ := List.getLast?_eq_some_iff.1 hlast
          rw [hl, List.pairwise_append] at hsorted
          rw [hl, List.mem_append, List.mem_singleton] at hx
          rcases hx with hx | rfl
          · exact (hsorted.2.2 x hx last (List.mem_singleton_self _)).le
          · exact le_rfl
        have hwin := (hw.1 last hmem).1
        simp only [RxQueue.offset, seqAhead, windowSize] at hoff hle hwin hspan ⊢
        bv_omega
      refine RxQueue.ok_of_windowed (q := { q with next := e.seq, entries := e :: q.entries }) hne
        (fun _ => List.cons_ne_nil _ _) ⟨fun x hx => ?_, List.pairwise_cons.2 ⟨fun x hx => ?_, ?_⟩⟩
        hwait hconceal hcounts
      · rcases List.mem_cons.1 hx with rfl | hx
        · exact ⟨by simp [seqAhead], he⟩
        · exact ⟨(back x hx).2, (hentries x hx).2⟩
      · have hfar : seqAhead q.next e.seq < 65536 := (e.seq - q.next).isLt
        have hself : seqAhead e.seq e.seq = 0 := by simp [seqAhead]
        rw [hself, (back x hx).1]
        omega
      · refine (hw.rebase (fun x hx => (back x hx).2) fun x hx y hy hlt => ?_).2
        rw [(back x hx).1, (back y hy).1]
        omega
    · rw [RxQueue.placeBefore_of_far hlast (Nat.not_le.1 hspan)]
      exact h.countLate hne

/-- A block beyond the window slides it or starts the queue again (R84, R85). -/
theorem RxQueue.Ok.placeBeyond (h : q.Ok) (hmode : q.mode ≠ .idle) (hdepth : depth ≤ 8)
    (he : e.level ≤ 32768) (hlow : 16 ≤ q.offset e.seq) (hhigh : q.offset e.seq < 32768) :
    (q.placeBeyond depth e).1.Ok := by
  obtain ⟨hlate, hslides, hresyncs, hconcealed, hbreaks⟩ := h.counts_ok
  by_cases hkept : q.keptFor e.seq = []
  · rw [h.placeBeyond_of_none_kept depth hlow hhigh hkept]
    exact RxQueue.start_ok (q := { q with counts := { q.counts with
      resyncs := countUp q.counts.resyncs 1 } }) hdepth he
      ⟨hlate, hslides, min_le_left _ _, hconcealed, hbreaks⟩
  · rw [h.placeBeyond_of_kept depth hlow hhigh hkept]
    have hw := h.windowed.filter (fun x => seqAhead (e.seq - 15) x.seq < 32768)
    have slid (x : RxEntry) (hx : x ∈ q.keptFor e.seq) :
        seqAhead (e.seq - 15) x.seq + seqAhead q.next (e.seq - 15) = seqAhead q.next x.seq ∧
        1 ≤ seqAhead q.next (e.seq - 15) ∧ seqAhead q.next x.seq < 16 := by
      have hin := of_decide_eq_true (List.mem_filter.1 hx).2
      have hwin := (hw.1 x hx).1
      simp only [RxQueue.offset, seqAhead] at hlow hhigh hwin hin ⊢
      bv_omega
    have hlast : seqAhead (e.seq - 15) e.seq = 15 := by
      simp only [seqAhead]
      bv_omega
    have hrebased : Windowed (e.seq - 15) (q.keptFor e.seq) := by
      refine Windowed.rebase hw (fun x hx => ?_) fun x hx y hy hlt => ?_
      · have := slid x hx
        omega
      · have := slid x hx
        have := slid y hy
        omega
    obtain ⟨-, -, -, -, hwait, hconceal, -⟩ := h
    refine RxQueue.ok_of_windowed hmode (fun _ => by simp) ⟨fun x hx => ?_, ?_⟩ hwait hconceal
      ⟨hlate, min_le_left _ _, hresyncs, hconcealed, hbreaks⟩
    · rcases List.mem_append.1 hx with hx | hx
      · exact hrebased.1 x hx
      · obtain rfl := List.mem_singleton.1 hx
        exact ⟨hlast.trans_lt (by decide), he⟩
    · refine List.pairwise_append.2 ⟨hrebased.2, List.pairwise_singleton _ _, fun x hx y hy => ?_⟩
      obtain rfl := List.mem_singleton.1 hy
      have := slid x hx
      dsimp only
      omega

/-- A block placed leaves a queue that keeps its bounds (section 5.3). -/
theorem RxQueue.Ok.place (h : q.Ok) (hdepth : depth ≤ 8) (he : e.level ≤ 32768) :
    (q.place depth e).1.Ok := by
  by_cases hidle : q.mode = .idle
  · rw [RxQueue.place_of_idle depth hidle]
    exact RxQueue.start_ok hdepth he h.counts_ok
  by_cases hwindow : q.offset e.seq < windowSize
  · rw [RxQueue.place_of_window depth hidle hwindow]
    dsimp only
    split
    · exact h
    · next hnew =>
      rw [RxQueue.holds_iff] at hnew
      exact h.insert hidle he hwindow fun x hx hseq => hnew ⟨x, hx, hseq⟩
  by_cases hhigh : q.offset e.seq < 32768
  · rw [RxQueue.place_of_beyond depth hidle (Nat.not_lt.1 hwindow) hhigh]
    exact h.placeBeyond hidle hdepth he (Nat.not_lt.1 hwindow) hhigh
  · rw [RxQueue.place_of_before depth hidle (Nat.not_lt.1 hhigh)]
    dsimp only
    split
    · exact h.countLate hidle
    · next hplay =>
      have hprime : q.mode = .priming := by
        cases hm : q.mode with
        | idle => exact absurd hm hidle
        | priming => rfl
        | playing => exact absurd hm hplay
      exact h.placeBefore hprime he (Nat.not_lt.1 hhigh)

end

theorem RxQueue.Ok.placeAll {depth : Nat} (hdepth : depth ≤ 8) {es : List RxEntry} :
    ∀ {q : RxQueue}, q.Ok → (∀ e ∈ es, e.level ≤ 32768) → (q.placeAll depth es).1.Ok := by
  induction es with
  | nil => exact fun h _ => h
  | cons e es ih =>
    intro q h hes
    obtain ⟨he, hes⟩ := List.forall_mem_cons.1 hes
    exact ih (h.place hdepth he) hes

/-- The blocks of a section carry the levels of the section. -/
theorem level_numberBlocks {blocks : List AirBlock} (h : ∀ b ∈ blocks, b.level ≤ 32768) :
    ∀ first : Seq, ∀ e ∈ numberBlocks first blocks, e.level ≤ 32768 := by
  induction blocks with
  | nil => exact fun _ => nofun
  | cons b bs ih =>
    obtain ⟨hb, hbs⟩ := List.forall_mem_cons.1 h
    exact fun first => List.forall_mem_cons.2 ⟨hb, ih hbs _⟩

/-! ## Playout (R86 to R91) -/

section
variable {q : RxQueue} {depth : Nat}

theorem RxQueue.Ok.primingStep (h : q.Ok) (hmode : q.mode = .priming) : (q.primingStep depth).Ok := by
  obtain ⟨-, hprime, hentries, hsorted, hwait, hconceal, hcounts⟩ := h
  rw [RxQueue.primingStep_eq]
  refine RxQueue.ok_of_windowed ?_ (fun _ => hprime hmode) ⟨hentries, hsorted⟩
    ((Nat.sub_le _ _).trans hwait) hconceal hcounts
  dsimp only
  split <;> nofun

theorem RxQueue.Ok.behindNext (h : q.Ok) : Windowed q.next q.behindNext := h.windowed.filter _

theorem RxQueue.ne_next_of_mem_behindNext {x : RxEntry} (hx : x ∈ q.behindNext) : x.seq ≠ q.next :=
  of_decide_eq_true (List.mem_filter.1 hx).2

/-- The entry at *next* taken leaves the others in the window, or ends the stream (R88, R89). -/
theorem RxQueue.Ok.take (h : q.Ok) (hmode : q.mode = .playing) (hdepth : depth ≤ 8) (e : RxEntry) :
    (q.take depth e).Ok := by
  have hw := h.behindNext
  have hcounts := h.counts_ok
  obtain ⟨-, -, -, -, hwait, -, -⟩ := h
  cases hend : e.isEnd with
  | false =>
    rw [RxQueue.take_of_plain depth hend]
    exact RxQueue.ok_of_windowed (by simp [hmode]) (by simp [hmode])
      (hw.succ fun x hx => RxQueue.ne_next_of_mem_behindNext hx) hwait (Nat.zero_le _) hcounts
  | true =>
    cases hrest : q.behindNext with
    | nil =>
      rw [RxQueue.take_of_last_end depth hend hrest]
      exact RxQueue.cleared_ok hcounts
    | cons x after =>
      rw [RxQueue.take_of_end depth hend hrest]
      rw [hrest] at hw ⊢
      exact RxQueue.ok_of_windowed nofun (fun _ => List.cons_ne_nil _ _) hw.from_first hdepth
        (Nat.zero_le _) hcounts

/-- A boundary without the entry at *next* is concealed, or breaks the stream (R90, R91). -/
theorem RxQueue.Ok.concealStep (h : q.Ok) (hmode : q.mode = .playing) (hnext : q.atNext = none) :
    q.concealStep.Ok := by
  obtain ⟨hlate, hslides, hresyncs, _, hbreaks⟩ := h.counts_ok
  by_cases hbreak : 8 ≤ min 255 (q.conceal + 1) ∧ q.entries = []
  · obtain ⟨hrun, hempty⟩ := hbreak
    rw [RxQueue.concealStep_of_break hrun hempty]
    exact RxQueue.cleared_ok ⟨hlate, hslides, hresyncs, min_le_left _ _, min_le_left _ _⟩
  · rw [RxQueue.concealStep_of_goes_on ((not_and_or.1 hbreak).imp_left Nat.not_le.1)]
    have hw := h.windowed.succ (RxQueue.atNext_none.1 hnext)
    obtain ⟨-, -, -, -, hwait, -, -⟩ := h
    exact RxQueue.ok_of_windowed (by simp [hmode]) (by simp [hmode]) hw hwait (min_le_left _ _)
      ⟨hlate, hslides, hresyncs, min_le_left _ _, hbreaks⟩

/-- A playout step leaves a queue that keeps its bounds (section 5.4). -/
theorem RxQueue.Ok.playStep (h : q.Ok) (hdepth : depth ≤ 8) : (q.playStep depth).1.Ok := by
  cases hmode : q.mode with
  | idle =>
    rw [RxQueue.playStep_of_idle depth hmode]
    exact h
  | priming =>
    rw [RxQueue.playStep_of_priming depth hmode]
    exact h.primingStep hmode
  | playing =>
    cases hnext : q.atNext with
    | none =>
      rw [RxQueue.playStep_of_missing depth hmode hnext]
      exact h.concealStep hmode hnext
    | some e =>
      rw [RxQueue.playStep_of_held depth hmode hnext]
      exact h.take hmode hdepth e

end

/-! ## The downlink queue (R93 to R97) -/

/-- The downlink keeps its bounds: the queue's and the slip state's. -/
def Downlink.Ok (d : Downlink) : Prop := d.queue.Ok ∧ d.SlipOk

theorem Downlink.slipOk_cleared {d : Downlink} (hslip : d.slip = SlipState.cleared)
    (h : d.slips ≤ 65535) : d.SlipOk := by
  rw [Downlink.SlipOk, hslip]
  exact ⟨fun _ => rfl, Nat.zero_le _, Nat.zero_le _, Nat.zero_le _,
    fun _ => ⟨by decide, by decide, rfl⟩, fun hne => absurd rfl hne, h⟩

theorem Downlink.Ok.flush {d : Downlink} (h : d.Ok) : d.flush.Ok := by
  obtain ⟨hqueue, _, _, _, _, _, _, hslips⟩ := h
  exact ⟨hqueue.flush, Downlink.slipOk_cleared rfl hslips⟩

section
variable {d : Downlink} {depth : Nat}

/-- Out of PLAYING a slip state is cleared; in PLAYING it is kept. -/
theorem Downlink.settleSlip_slipOk (h : d.queue.mode = .playing → d.SlipOk) (hslips : d.slips ≤ 65535) :
    d.settleSlip.SlipOk := by
  by_cases hplay : d.queue.mode = .playing
  · rw [Downlink.settleSlip_of_playing hplay]
    exact h hplay
  · rw [Downlink.settleSlip_of_not_playing hplay]
    exact Downlink.slipOk_cleared rfl hslips

theorem Downlink.settleSlip_queue : d.settleSlip.queue = d.queue := by
  unfold Downlink.settleSlip
  split <;> rfl

/-- A queue placed into keeps the slip state while it goes on playing (R79, R97). -/
theorem Downlink.Ok.placed (h : d.Ok) {q : RxQueue} (hq : q.Ok) :
    (Downlink.settleSlip { d with queue := q }).Ok := by
  obtain ⟨_, _, hslip⟩ := h
  have hslips := hslip.2.2.2.2.2
  refine ⟨?_, Downlink.settleSlip_slipOk (fun hplay => ⟨fun hne => absurd hplay hne, hslip⟩) hslips⟩
  rw [Downlink.settleSlip_queue]
  exact hq

/-- Runs that have not reached 250 are measured on (R93). -/
theorem Downlink.measure_slipOk (hplay : d.queue.mode = .playing) (hhigh : d.slip.highRun < 250)
    (hlow : d.slip.lowRun < 250) (hslips : d.slips ≤ 65535) : (d.measure depth).SlipOk := by
  obtain ⟨high, hh⟩ : ∃ n, n = if depth + 2 < d.queue.entries.length then d.slip.highRun + 1 else 0 :=
    ⟨_, rfl⟩
  obtain ⟨low, hl⟩ : ∃ n, n = if d.queue.entries.length + 1 < depth then d.slip.lowRun + 1 else 0 :=
    ⟨_, rfl⟩
  have hhle : high ≤ 250 := by rw [hh]; split <;> omega
  have hlle : low ≤ 250 := by rw [hl]; split <;> omega
  rw [Downlink.measure_eq hhigh hlow hh hl]
  refine ⟨fun hne => absurd hplay hne, hhle, hlle, ?_, fun hnone => ?_, fun hpending => ?_, hslips⟩
  · dsimp only
    split <;> omega
  · dsimp only at hnone ⊢
    split_ifs at hnone with hhigh hlow
    rw [if_neg (by omega)]
    omega
  · dsimp only at hpending ⊢
    split_ifs at hpending with hhigh hlow
    · rw [if_pos (.inl hhigh)]
      decide
    · rw [if_pos (.inr hlow)]
      decide
    · exact absurd rfl hpending

theorem Downlink.Ok.dropStep (h : d.Ok) (hdepth : depth ≤ 8) : (d.dropStep depth).1.Ok := by
  obtain ⟨hqueue, _, _, _, _, _, _, hslips⟩ := h
  have hstepped := hqueue.playStep hdepth
  unfold Downlink.dropStep
  dsimp only
  split
  · next hplay =>
    refine ⟨?_, Downlink.slipOk_cleared rfl (min_le_left _ _)⟩
    have hw := hstepped.behindNext.succ fun x hx => RxQueue.ne_next_of_mem_behindNext hx
    obtain ⟨-, -, -, -, hwait, hconceal, hcounts⟩ := hstepped
    have hne : (d.queue.playStep depth).1.mode ≠ .idle := by simp [hplay]
    have hnp : (d.queue.playStep depth).1.mode ≠ .priming := by simp [hplay]
    exact RxQueue.ok_of_windowed hne (fun hprime => absurd hprime hnp) hw hwait hconceal hcounts
  · exact ⟨hstepped, Downlink.slipOk_cleared rfl hslips⟩

theorem Downlink.Ok.repeatStep (h : d.Ok) (hplay : d.queue.mode = .playing) : d.repeatStep.1.Ok := by
  obtain ⟨hqueue, _⟩ := h
  unfold Downlink.repeatStep
  split
  · next e _ =>
    refine ⟨?_, Downlink.slipOk_cleared rfl (min_le_left _ _)⟩
    obtain ⟨-, hprime, hentries, hsorted, hwait, hconceal, hcounts⟩ := hqueue
    have hne : d.queue.mode ≠ .idle := by simp [hplay]
    exact RxQueue.ok_of_windowed (q := { d.queue with lastReal := some e.realBlock }) hne hprime
      ⟨hentries, hsorted⟩ hwait hconceal hcounts
  · exact ⟨hqueue, Downlink.slipOk_cleared rfl (min_le_left _ _)⟩

/-- The downlink's step keeps its bounds (section 5.5). -/
theorem Downlink.Ok.step (h : d.Ok) (hdepth : depth ≤ 8) (quiet : Nat) : (d.step depth quiet).1.Ok := by
  have hstepped := h.1.playStep hdepth
  by_cases hplay : d.queue.mode = .playing
  · cases hpending : d.slip.pending with
    | none =>
      rw [Downlink.step_of_no_slip hplay hpending]
      obtain ⟨_, _, _, _, _, hfree, _, hslips⟩ := h
      obtain ⟨hhigh, hlow, _⟩ := hfree hpending
      dsimp only
      split
      · next hgoes => exact ⟨hstepped, Downlink.measure_slipOk hgoes hhigh hlow hslips⟩
      · next hleft =>
        rw [Downlink.settleSlip_of_not_playing hleft]
        exact ⟨hstepped, Downlink.slipOk_cleared rfl hslips⟩
    | some kind =>
      by_cases hnow : d.slipNow quiet = true
      · cases kind with
        | drop =>
          rw [Downlink.step_of_drop hplay hpending hnow]
          exact h.dropStep hdepth
        | _ =>
          rw [Downlink.step_of_repeat hplay hpending hnow]
          exact h.repeatStep hplay
      · have hsome : d.slip.pending ≠ none := by simp [hpending]
        rw [Downlink.step_of_waiting hplay hsome hnow]
        obtain ⟨_, _, hhigh, hlow, hwait, _, hpend, hslips⟩ := h
        refine ⟨by rw [Downlink.settleSlip_queue]; exact hstepped,
          Downlink.settleSlip_slipOk (fun hgoes => ⟨fun hne => absurd hgoes hne, hhigh, hlow,
            (Nat.sub_le _ _).trans hwait, fun hnone => absurd hnone hsome, fun _ => ?_, hslips⟩) hslips⟩
        have hleft : d.slip.wait - 1 ≠ 0 := fun hz => hnow (by simp [Downlink.slipNow, hz])
        exact Nat.one_le_iff_ne_zero.2 hleft
  · rw [Downlink.step_of_not_playing hplay]
    obtain ⟨_, hrest, _, _, _, _, _, hslips⟩ := h
    exact ⟨hstepped, Downlink.slipOk_cleared (hrest hplay) hslips⟩

end

end Sys2Proof.Machine
end

section
/-! PROOFS. What the shared operations keep of each agreement: the role, the send queue, what is due,
the Link Port, the bridge state, the bridge term and the floor. -/

namespace Sys2Proof.Machine

section
variable {s : State}

/-! ## The role (R44, R49 to R51) -/

theorem State.takeLead_roleOk (h : s.RoleOk) : s.takeLead.RoleOk := by
  obtain ⟨hiso, hstep⟩ := id h
  unfold State.takeLead
  split
  · next hready =>
    obtain ⟨hready, _⟩ := Bool.and_eq_true_iff.1 hready
    rw [Bool.not_eq_true'] at hready
    exact ⟨fun hisolated => absurd (hready.symm.trans hisolated) (by decide),
      fun hpending => ⟨rfl, (hstep hpending).2⟩⟩
  · exact h

/-- Once a step-down that no spurt delays has taken effect, role and spurt agree (R51). -/
theorem State.stepDownEffect_roleOk
    (hiso : s.isolated = true → s.wl.role = .standby ∧ s.wl.stepDown = false)
    (hstep : s.wl.stepDown = true → s.wl.role = .lead) : s.stepDownEffect.RoleOk := by
  by_cases h : s.wl.stepDown = true ∧ s.cu.spurt = .quiet
  · have down : ({ s with wl := { s.wl with role := .standby, stepDown := false } } : State).RoleOk :=
      ⟨fun _ => ⟨rfl, rfl⟩, nofun⟩
    have hcond : (s.wl.stepDown && decide (s.cu.spurt = .quiet)) = true := by simpa using h
    rw [State.stepDownEffect, if_pos hcond]
    dsimp only
    split
    · exact State.takeLead_roleOk down
    · exact down
  · rw [State.stepDownEffect_of_settled h]
    exact ⟨hiso, fun hpending => ⟨hstep hpending, fun hquiet => h ⟨hpending, hquiet⟩⟩⟩

theorem State.evaluateRole_roleOk (h : s.RoleOk) : s.evaluateRole.RoleOk := by
  unfold State.evaluateRole
  split
  · exact State.takeLead_roleOk h
  · next hlead =>
    split
    · refine State.stepDownEffect_roleOk (s := { s with wl := { s.wl with stepDown := true } })
        (fun hisolated => ?_) fun _ => hlead
      have hstandby := (h.1 hisolated).1
      rw [hlead] at hstandby
      cases hstandby
    · exact h

/-! ## The send queue (R65 to R67) -/

theorem dropTagged_sublist (tag : Tag) (n : Nat) (q : List SendEntry) :
    (dropTagged tag n q).Sublist q := by
  fun_induction dropTagged tag n q with
  | case1 q => exact .refl q
  | case2 n => exact .refl []
  | case3 n e q h ih => exact ih.cons e
  | case4 n e q h ih => exact ih.cons_cons e

theorem SendAssembler.formed_queue (sa : SendAssembler) (now v c : Nat) (k : FrameKind) :
    (sa.formed now v c k).queue.Sublist sa.queue ∧ (sa.formed now v c k).sendDrops = sa.sendDrops := by
  cases k with
  | talk => exact ⟨(dropTagged_sublist _ _ _).trans (dropTagged_sublist _ _ _), rfl⟩
  | presence => exact ⟨.refl _, rfl⟩
  | hail => exact ⟨.refl _, rfl⟩
  | leave => exact ⟨.refl _, rfl⟩

/-- A send queue keeps its bounds when entries go, as long as CALL entries stand only while ACTIVE. -/
theorem State.SendQueueOk.of_sublist {t : State} (h : s.SendQueueOk)
    (hqueue : t.sa.queue.Sublist s.sa.queue) (hdrops : t.sa.sendDrops = s.sa.sendDrops)
    (hcount : t.cu.captureCount = s.cu.captureCount)
    (hcalls : t.bu.state ≠ .active → s.bu.state ≠ .active ∨ ∀ e ∈ t.sa.queue, e.tag = .voice) :
    t.SendQueueOk := by
  obtain ⟨hlen, hentries, hsorted, hvoice, hcounted⟩ := h
  refine ⟨hqueue.length_le.trans hlen, fun e he => ?_, hsorted.sublist hqueue, fun hleft e he => ?_,
    hdrops ▸ hcounted⟩
  · rw [hcount]
    exact hentries e (hqueue.subset he)
  · rcases hcalls hleft with hinactive | hgone
    · exact hvoice hinactive e (hqueue.subset he)
    · exact hgone e he

/-! ## What is due (R69, R70) -/

theorem State.chooseKind_hail (h : s.chooseKind = some .hail) : s.sa.hailDue = true := by
  unfold State.chooseKind at h
  split_ifs at h with hleave hhail
  · cases h
  · exact hhail
  all_goals cases h

/-- A frame formed clears what made it due, and its timer starts (R69 to R71). -/
theorem State.handedOver_dueOk {k : FrameKind} (hk : s.chooseKind = some k) (h : s.DueOk) :
    (s.handedOver k).DueOk := by
  obtain ⟨hhail, htimer, hpresence, hpromotion, hscheduled⟩ := id h
  cases k with
  | talk => exact h
  | leave => exact h
  | presence => exact ⟨hhail, htimer, fun _ => .inl rfl, rfl, nofun⟩
  | hail =>
    have hdue := State.chooseKind_hail hk
    rw [hdue, htimer hdue] at hhail
    exact ⟨hhail, nofun, hpresence, hpromotion, hscheduled⟩

theorem State.askPresence_dueOk (h : s.DueOk) : s.askPresence.DueOk := by
  obtain ⟨hhail, htimer, _, hpromotion, hscheduled⟩ := h
  exact ⟨hhail, htimer, fun _ => .inr (.inr rfl), hpromotion, hscheduled⟩

/-! ## The Link Port (R5 to R12) -/

/-- An access state that is not DEFER holds no count and no slot; the moment of send-done stands by
the access state. -/
theorem State.LinkOk.leave_defer {t : State} (h : s.LinkOk) (haccess : t.lp.access ≠ .defer)
    (hbackoff : t.lp.backoff = none) (hslot : t.lp.slotEnd = none)
    (hsent : t.lp.sendDoneAt.isSome = decide (t.lp.access = .turnaround))
    (hcw : t.lp.cw = s.lp.cw) (hframes : t.lp.framesSent = s.lp.framesSent)
    (hchecks : t.lp.checkFailures = s.lp.checkFailures)
    (hforeign : t.lp.foreignFrames = s.lp.foreignFrames)
    (hclashes : t.lp.numberClashes = s.lp.numberClashes) : t.LinkOk := by
  obtain ⟨hcws, _, _, _, _, hf, hc, hg, hn⟩ := h
  refine ⟨hcw ▸ hcws, ?_, ?_, fun hne => absurd hslot hne, hsent, hframes ▸ hf, hchecks ▸ hc,
    hforeign ▸ hg, hclashes ▸ hn⟩
  · rw [hbackoff, decide_eq_false haccess]
    rfl
  · rw [hbackoff]
    rfl

/-- Out of DEFER no count is held and no slot runs. -/
theorem State.LinkOk.no_count (h : s.LinkOk) (haccess : s.lp.access ≠ .defer) :
    s.lp.backoff = none ∧ s.lp.slotEnd = none := by
  obtain ⟨_, hcount, _, hslot, _⟩ := h
  rw [decide_eq_false haccess, Option.isSome_eq_false_iff, Option.isNone_iff_eq_none] at hcount
  exact ⟨hcount, Classical.byContradiction fun hne => haccess (hslot hne).1⟩

/-- Out of TURNAROUND no send-done is held. -/
theorem State.LinkOk.sendDoneAt_eq_none (h : s.LinkOk) (haccess : s.lp.access ≠ .turnaround) :
    s.lp.sendDoneAt = none := by
  obtain ⟨-, -, -, -, hsent, -⟩ := h
  rwa [decide_eq_false haccess, Option.isSome_eq_false_iff, Option.isNone_iff_eq_none] at hsent

theorem State.linkIdle_linkOk (haccess : s.lp.access ≠ .turnaround) (h : s.LinkOk) :
    s.linkIdle.LinkOk :=
  h.leave_defer nofun rfl rfl (by
    have := h.sendDoneAt_eq_none haccess
    simp [State.linkIdle, this]) rfl rfl rfl rfl rfl

theorem State.handedOver_linkOk (haccess : s.lp.access ≠ .turnaround) (k : FrameKind) (h : s.LinkOk) :
    (s.handedOver k).LinkOk :=
  h.leave_defer nofun rfl rfl (by
    have := h.sendDoneAt_eq_none haccess
    simp [State.handedOver, this]) rfl rfl rfl rfl rfl

theorem State.ask_linkOk (haccess : s.lp.access ≠ .turnaround) (h : s.LinkOk) : s.ask.LinkOk := by
  rcases s.ask_cases with ⟨_, hask⟩ | ⟨k, _, hask⟩ <;> rw [hask]
  · exact State.linkIdle_linkOk haccess h
  · exact State.handedOver_linkOk haccess k h

/-- CW doubles among its four values, and the count is drawn below it (R6). -/
theorem State.deferAccess_linkOk (haccess : s.lp.access = .idle) (h : s.LinkOk) :
    s.deferAccess.LinkOk := by
  have hnone := h.sendDoneAt_eq_none (by simp [haccess])
  obtain ⟨hcw, _, _, _, _, hcounts⟩ := h
  have hdoubled : s.doubledCw ∈ [8, 16, 32, 64] := by
    simp only [List.mem_cons, List.not_mem_nil, or_false] at hcw ⊢
    rcases hcw with hcw | hcw | hcw | hcw <;> simp [State.doubledCw, hcw, cwMax]
  have hpos : 0 < s.doubledCw := by
    simp only [List.mem_cons, List.not_mem_nil, or_false] at hdoubled
    omega
  exact ⟨hdoubled, rfl, decide_eq_true (s.drawBackoff_lt hpos), fun hne => absurd rfl hne,
    by simp [State.deferAccess, hnone], hcounts⟩

theorem State.linkReact_linkOk (h : s.LinkOk) : s.linkReact.LinkOk := by
  rcases s.linkReact_cases with hr | ⟨hdefer, _, hr⟩ | ⟨hidle, _, hr⟩ | ⟨k, hidle, _, _, hr⟩ <;>
    rw [hr]
  · exact h
  · exact State.linkIdle_linkOk (by simp [hdefer]) h
  · exact State.deferAccess_linkOk hidle h
  · exact State.handedOver_linkOk (by simp [hidle]) k h

/-! ## The bridge state (R128 to R139) -/

/-- The Bridge Unit is out of OFF exactly with the call flag set and AUDIO_READY high, and its settle
timer runs exactly in CLAIMING. -/
def State.CallOk (s : State) : Prop :=
  (s.bu.state ≠ .off ↔ s.bu.callFlag = true ∧ s.ports.audioReady = true) ∧
  s.bu.settle.isSome = decide (s.bu.state = .claiming)

/-- An evaluation of the bridge state keeps it, or yields, claims afresh or leaves ACTIVE (R130). -/
theorem State.evaluateState_cases (s : State) :
    s.evaluateState = s ∨
    (s.bu.state = .claiming ∧ s.evaluateState = s.enterYielded) ∨
    (s.bu.state = .yielded ∧ s.lowerClaimer = false ∧ s.evaluateState = s.enterClaiming) ∨
    (s.bu.state = .active ∧ s.evaluateState = s.leaveActive.enterYielded) := by
  cases hstate : s.bu.state with
  | off => exact .inl (State.evaluateState_of_kept (.inl hstate))
  | claiming =>
    cases hlower : s.lowerClaimer with
    | false => exact .inl (State.evaluateState_of_kept (.inr (.inl ⟨.inl hstate, hlower⟩)))
    | true => exact .inr (.inl ⟨rfl, State.evaluateState_of_outclaimed hstate hlower⟩)
  | active =>
    cases hlower : s.lowerClaimer with
    | false => exact .inl (State.evaluateState_of_kept (.inr (.inl ⟨.inr hstate, hlower⟩)))
    | true => exact .inr (.inr (.inr ⟨rfl, State.evaluateState_of_displaced hstate hlower⟩))
  | yielded =>
    cases hlower : s.lowerClaimer with
    | true => exact .inl (State.evaluateState_of_kept (.inr (.inr ⟨hstate, hlower⟩)))
    | false => exact .inr (.inr (.inl ⟨rfl, rfl, State.evaluateState_of_freed hstate hlower⟩))

/-- Out of OFF the Bridge Unit changes its state with the settle timer in step. -/
theorem State.CallOk.moved {t : State} (h : s.CallOk) (hout : s.bu.state ≠ .off)
    (hout' : t.bu.state ≠ .off) (hflag : t.bu.callFlag = s.bu.callFlag)
    (hready : t.ports.audioReady = s.ports.audioReady)
    (hsettle : t.bu.settle.isSome = decide (t.bu.state = .claiming)) : t.CallOk :=
  ⟨⟨fun _ => hflag ▸ hready ▸ h.1.1 hout, fun _ => hout'⟩, hsettle⟩

theorem State.evaluateState_callOk (h : s.CallOk) : s.evaluateState.CallOk := by
  rcases s.evaluateState_cases with he | ⟨hclaiming, he⟩ | ⟨hyielded, hnone, he⟩ | ⟨hactive, he⟩ <;>
    rw [he]
  · exact h
  · exact h.moved (by simp [hclaiming]) nofun rfl rfl rfl
  · rw [State.enterClaiming_of_none_lower hnone]
    exact h.moved (by simp [hyielded]) nofun rfl rfl rfl
  · rw [State.leaveActive, State.endTerm_eq]
    exact h.moved (by simp [hactive]) nofun rfl rfl rfl

/-! ## CALL entries and the bridge state (R65, R137) -/

theorem State.removeCalls_sublist (s : State) : s.removeCalls.sa.queue.Sublist s.sa.queue :=
  List.filter_sublist

theorem State.leaveActive_voices (s : State) : ∀ e ∈ s.leaveActive.sa.queue, e.tag = .voice := by
  intro e he
  rw [State.leaveActive, State.endTerm_eq] at he
  exact of_decide_eq_true (List.mem_filter.1 he).2

theorem State.leaveActive_queue (s : State) : s.leaveActive.sa.queue.Sublist s.sa.queue := by
  rw [State.leaveActive, State.endTerm_eq]
  exact s.removeCalls_sublist

theorem State.enterOff_sendQueueOk (h : s.SendQueueOk) : s.enterOff.SendQueueOk := by
  by_cases hactive : s.bu.state = .active
  · rw [State.enterOff_of_active hactive]
    exact h.of_sublist List.filter_sublist rfl rfl fun _ =>
      .inr fun e he => of_decide_eq_true (List.mem_filter.1 he).2
  · rw [State.enterOff_of_not_active hactive]
    exact h.of_sublist (.refl _) rfl rfl fun _ => .inl hactive

/-- A state that was not ACTIVE changes without a CALL entry standing. -/
theorem State.SendQueueOk.with_bu (h : s.SendQueueOk) (hstate : s.bu.state ≠ .active)
    (b : BridgeUnit) : ({ s with bu := b } : State).SendQueueOk :=
  h.of_sublist (.refl _) rfl rfl fun _ => .inl hstate

theorem State.enterClaiming_sendQueueOk (hstate : s.bu.state ≠ .active) (h : s.SendQueueOk) :
    s.enterClaiming.SendQueueOk := by
  unfold State.enterClaiming
  dsimp only
  split
  · exact h.with_bu hstate _
  · exact h.with_bu hstate _

theorem State.evaluateState_sendQueueOk (h : s.SendQueueOk) : s.evaluateState.SendQueueOk := by
  rcases s.evaluateState_cases with he | ⟨hclaiming, he⟩ | ⟨hyielded, _, he⟩ | ⟨_, he⟩ <;> rw [he]
  · exact h
  · exact h.with_bu (by simp [hclaiming]) _
  · exact State.enterClaiming_sendQueueOk (by simp [hyielded]) h
  · refine h.of_sublist s.leaveActive_queue ?_ ?_ fun _ => .inr s.leaveActive_voices <;>
      rw [State.leaveActive, State.endTerm_eq] <;> rfl

/-! ## The bridge term (R137, R151, R158, R164) -/

/-- Out of ACTIVE one state of the Bridge Unit does for the term as another. -/
theorem State.TermOk.with_bu (h : s.TermOk) (hstate : s.bu.state ≠ .active) {b : BridgeUnit}
    (hb : b.state ≠ .active) : ({ s with bu := b } : State).TermOk := by
  obtain ⟨hvacant, _, hlate, hmerges⟩ := h
  exact ⟨fun _ => hvacant hstate, fun hactive => absurd hactive hb, hlate, hmerges⟩

/-- With the term ended nothing of it stands (R164). -/
theorem State.leaveActive_termOk (h : s.TermOk) {b : BridgeUnit} (hb : b.state ≠ .active) :
    ({ s.leaveActive with bu := b } : State).TermOk := by
  obtain ⟨_, _, hlate, hmerges⟩ := h
  rw [State.leaveActive, State.endTerm_eq]
  refine ⟨fun _ => ⟨rfl, rfl, rfl, rfl, rfl, fun p hp => ?_⟩, fun hactive => absurd hactive hb,
    hlate, hmerges⟩
  obtain ⟨q, _, rfl⟩ := List.mem_map.1 hp
  rfl

theorem State.enterOff_termOk (h : s.TermOk) : s.enterOff.TermOk := by
  unfold State.enterOff
  by_cases hactive : s.bu.state = .active
  · simp only [if_pos hactive]
    exact State.leaveActive_termOk h nofun
  · simp only [if_neg hactive]
    exact h.with_bu hactive nofun

theorem State.enterClaiming_termOk (hstate : s.bu.state ≠ .active) (h : s.TermOk) :
    s.enterClaiming.TermOk := by
  unfold State.enterClaiming
  dsimp only
  split
  · exact h.with_bu hstate nofun
  · exact h.with_bu hstate nofun

theorem State.evaluateState_termOk (h : s.TermOk) : s.evaluateState.TermOk := by
  rcases s.evaluateState_cases with he | ⟨hclaiming, he⟩ | ⟨hyielded, _, he⟩ | ⟨_, he⟩ <;> rw [he]
  · exact h
  · exact h.with_bu (by simp [hclaiming]) nofun
  · exact State.enterClaiming_termOk (by simp [hyielded]) h
  · exact State.leaveActive_termOk h nofun

/-- While ACTIVE only the slots and the counts of a term matter. -/
theorem State.termOk_of_active {t : State} (hactive : t.bu.state = .active)
    (hslots : ∀ k, (t.cq.slots.get k).pending = false)
    (hmerges : t.cq.merges.answer ≤ 65535 ∧ t.cq.merges.hangup ≤ 65535) : t.TermOk :=
  ⟨fun hne => absurd hactive hne, fun _ k _ => hslots k,
    fun k _ hpending => absurd ((hslots k).symm.trans hpending) (by decide), hmerges⟩

/-- A slot replaced keeps the agreement when it is PENDING only as the old one was, its mark clear. -/
theorem State.setSlot_termOk {k : ReqKind} {sl : Slot}
    (hsl : sl.pending = true → (s.cq.slots.get k).pending = true ∧ sl.late = false) (h : s.TermOk) :
    (s.setSlot k sl).TermOk := by
  obtain ⟨hvacant, hidle, hlate, hmerges⟩ := h
  refine ⟨hvacant, fun hactive j hj => ?_, fun j hj hpending => ?_, hmerges⟩
  · by_cases hjk : j = k
    · subst hjk
      have hold := hidle hactive j hj
      by_contra hnew
      rw [State.setSlot] at hnew
      dsimp only at hnew
      rw [PerKind.get_set_same] at hnew
      rw [(hsl (by simpa using hnew)).1] at hold
      cases hold
    · simp only [State.setSlot, PerKind.get_set_other _ hjk]
      exact hidle hactive j hj
  · by_cases hjk : j = k
    · subst hjk
      simp only [State.setSlot, PerKind.get_set_same] at hpending ⊢
      exact (hsl hpending).2
    · simp only [State.setSlot, PerKind.get_set_other _ hjk] at hpending ⊢
      exact hlate j hj hpending

/-! ## The floor (R158 to R162) -/

/-- No station is on the floor twice, nobody waits behind no holder, and the grant runs exactly with a
holder for at most *G* seconds. -/
def State.FloorKept (s : State) : Prop :=
  s.FloorShape ∧ s.cq.grant.isSome = s.cq.holder.isSome ∧
  ∀ t, s.cq.grant = some t → t ≤ s.grantEnds

/-- Every station on the floor is the own one or an ADMITTED peer. -/
def State.FloorMembers (s : State) : Prop :=
  ∀ n ∈ s.onFloor, n = s.own ∨ ∃ p ∈ s.ru.peers, p.station = n ∧ p.state = .admitted

theorem State.FloorKept.vacant {t : State} (hholder : t.cq.holder = none) (hqueue : t.cq.floorQueue = [])
    (hgrant : t.cq.grant = none) : t.FloorKept :=
  ⟨.of_vacant hholder hqueue, by rw [hholder, hgrant],
    fun e he => by rw [hgrant] at he; cases he⟩

/-- The stations on the floor still stand in the table, or are fewer. -/
theorem State.FloorMembers.of_sublist {t : State} (h : s.FloorMembers) (hon : t.onFloor ⊆ s.onFloor)
    (hown : t.own = s.own) (hpeers : t.ru.peers = s.ru.peers) : t.FloorMembers := by
  intro n hn
  rw [hown, hpeers]
  exact h n (hon hn)

theorem State.endGrant_kept (h : s.FloorKept) : s.endGrant.FloorKept := by
  obtain ⟨hon, hnone⟩ := s.endGrant_onFloor
  obtain ⟨⟨hnodup, _⟩, _⟩ := h
  refine ⟨⟨?_, hnone⟩, ?_⟩
  · rw [hon]
    exact (List.nodup_append.1 hnodup).2.1
  · cases hq : s.cq.floorQueue with
    | nil =>
      rw [State.endGrant_of_none_waiting hq]
      exact ⟨rfl, nofun⟩
    | cons m rest =>
      rw [State.endGrant_of_oldest hq]
      refine ⟨rfl, fun t ht => ?_⟩
      obtain rfl := Option.some.inj ht
      exact le_of_eq rfl

theorem State.endGrant_members (h : s.FloorMembers) : s.endGrant.FloorMembers :=
  h.of_sublist (by rw [s.endGrant_onFloor.1]; exact List.subset_append_right _ _)
    (by simp [State.own]) (by simp)

theorem State.requestFloor_kept (n : Nat) (h : s.FloorKept) : (s.requestFloor n).FloorKept := by
  obtain ⟨hshape, hgrant, hends⟩ := id h
  refine ⟨(State.requestFloor_onFloor hshape n).2, ?_⟩
  have fresh (t : Nat) (ht : some s.grantEnds = some t) : t ≤ s.grantEnds :=
    le_of_eq (Option.some.inj ht).symm
  unfold State.requestFloor
  split_ifs with hholder hqueued hbusy
  · exact ⟨by rw [hholder]; rfl, fresh⟩
  · exact ⟨hgrant, hends⟩
  · exact ⟨hgrant, hends⟩
  · exact ⟨rfl, fresh⟩

theorem State.leaveFloor_kept (n : Nat) (h : s.FloorKept) : (s.leaveFloor n).FloorKept := by
  obtain ⟨hshape, hgrant, hends⟩ := id h
  by_cases hn : s.cq.holder = some n
  · rw [State.leaveFloor_of_holder hn]
    exact State.endGrant_kept h
  · refine ⟨(State.leaveFloor_onFloor hshape n).2, ?_⟩
    rw [State.leaveFloor_of_not_holder hn]
    exact ⟨hgrant, hends⟩

theorem State.leaveFloor_members (n : Nat) (h : s.FloorMembers) : (s.leaveFloor n).FloorMembers := by
  by_cases hn : s.cq.holder = some n
  · rw [State.leaveFloor_of_holder hn]
    exact State.endGrant_members h
  · rw [State.leaveFloor_of_not_holder hn]
    refine h.of_sublist (fun m hm => ?_) rfl rfl
    rcases List.mem_append.1 hm with hm | hm
    · exact List.mem_append_left _ hm
    · exact List.mem_append_right _ (List.mem_of_mem_filter hm)

end

end Sys2Proof.Machine
end

section
/-! PROOFS. What each shared operation may change, part by part, and the arrivals. -/

-- Some hundred short lemmas, each resting on the one before: elaborated one after another, since
-- side by side they only wait for each other.
set_option Elab.async false

namespace Sys2Proof.Machine

/-! ## The report queue (R172) -/

theorem pairAtMostOnce_of_requests {l : List ReportKind} (h : allRequests l = true) :
    pairAtMostOnce l = true := by
  induction l with
  | nil => rfl
  | cons k l ih =>
    simp only [allRequests, List.all_cons, Bool.and_eq_true, decide_eq_true_eq] at h ih
    obtain ⟨rfl, hl⟩ := h
    exact ih hl

theorem pairAtMostOnce_append_request {l : List ReportKind} (h : pairAtMostOnce l = true) :
    pairAtMostOnce (l ++ [.request]) = true := by
  fun_induction pairAtMostOnce l with
  | case1 => rfl
  | case2 l ih => exact ih h
  | case3 l => simpa [pairAtMostOnce, allRequests] using h
  | case4 => cases h
  | case5 => cases h

theorem pairAtMostOnce_append_pair {l : List ReportKind} (h : allRequests l = true) :
    pairAtMostOnce (l ++ [.status, .roster]) = true := by
  induction l with
  | nil => rfl
  | cons k l ih =>
    simp only [allRequests, List.all_cons, Bool.and_eq_true, decide_eq_true_eq] at h ih
    obtain ⟨rfl, hl⟩ := h
    exact ih hl

theorem reportsLegal_of_pair {l : List ReportKind} (h : pairAtMostOnce l = true) :
    reportsLegal l = true := by
  unfold reportsLegal
  split
  · cases h
  · exact h

theorem reportsLegal_append_request {l : List ReportKind} (h : reportsLegal l = true) :
    reportsLegal (l ++ [.request]) = true := by
  unfold reportsLegal at h
  split at h
  · simpa [reportsLegal, allRequests] using h
  · exact reportsLegal_of_pair (pairAtMostOnce_append_request h)

/-- When the first report has gone out the rest is still legal. -/
theorem reportsLegal_tail {k : ReportKind} {l : List ReportKind} (h : reportsLegal (k :: l) = true) :
    reportsLegal l = true := by
  cases k with
  | roster => exact reportsLegal_of_pair (pairAtMostOnce_of_requests h)
  | request => exact reportsLegal_of_pair h
  | status =>
    match l, h with
    | .roster :: l, h => exact h

/-- A REQUEST report that is formed keeps the queue legal: at most four wait (R172, R176). -/
theorem State.formRequest_legal (s : State) (k : LatchKind) (h : s.ReportsOk) :
    (s.formRequest k).ReportsOk := by
  obtain ⟨hlegal, hidle, hwaiting, hunknown, hoverflows⟩ := h
  by_cases hfull : requestLimit ≤ s.requestsWaiting
  · rw [State.formRequest_of_full hfull]
    exact ⟨hlegal, hidle, hwaiting, hunknown, min_le_left _ _⟩
  · have hroom : s.requestsWaiting < 4 := Nat.not_le.1 hfull
    rw [State.formRequest_of_room hroom]
    cases hsending : s.cl.sending with
    | none =>
      have hpushed : s.pushReport (requestReport k (s.cq.merges.get k)) = { s with cl := { s.cl with
          sending := some (requestReport k (s.cq.merges.get k)) } } := by
        simp only [State.pushReport, hsending]
      rw [hpushed]
      refine ⟨?_, fun hnone => absurd hnone (by simp), hwaiting, hunknown, hoverflows⟩
      simp [hidle hsending, requestReport, mkReport, reportsLegal, pairAtMostOnce]
    | some r =>
      have hpushed : s.pushReport (requestReport k (s.cq.merges.get k)) = { s with cl := { s.cl with
          waiting := s.cl.waiting ++ [requestReport k (s.cq.merges.get k)] } } := by
        simp only [State.pushReport, hsending]
      rw [hpushed]
      refine ⟨?_, fun hnone => absurd (hsending.symm.trans hnone) (by simp), ?_, hunknown,
        hoverflows⟩
      · have := reportsLegal_append_request hlegal
        simpa [requestReport, mkReport] using this
      · have hone : (List.filter (fun r : Report => decide (r.kind = .request))
            [requestReport k (s.cq.merges.get k)]).length = 1 := by
          simp [requestReport, mkReport]
        rw [State.requestsWaiting] at hroom ⊢
        rw [List.filter_append, List.length_append, hone]
        exact hroom

/-! ## The parts -/

/-- The parts of the machine that a statement about a step speaks of one by one. -/
inductive Part where
  | time | commands | loader | resetHeld | audioReady | mediumBusy | outputs | capture | mix
  | ownMute | role | callFlag | bridge | window | departed | stations | entries | downlink
  | link | framesSent | tests | turnedAway | assembler | sendQueue | toggles | slots | latches
  | merges | floor | view | mask | unknown | outcomes | reports | flags | standings
  | reportsOk | roleOk | dueOk | linkOk | sendQueueOk | queuesOk | callOk | termOk | mergesOk
  | floorOk | floorMembers
  deriving DecidableEq

/-- What an entry shows of its station to the Wearer Logic and the Bridge Unit. -/
def Peer.standing (p : Peer) : Nat × PeerState × SenderState := (p.station, p.state, p.header)

/-- The entry's voice queue, if it has one, keeps its bounds. -/
abbrev Peer.QueueOk (p : Peer) : Prop := p.queue.all (fun q => decide q.Ok) = true

/-- The depth is one that a setting can have, and every queue keeps its bounds. -/
def State.QueuesKept (s : State) : Prop :=
  s.cfg.depth ≤ 8 ∧ (∀ p ∈ s.ru.peers, p.QueueOk) ∧ s.rq.Ok

/-- The merge counts stop at 65535. -/
def State.MergesOk (s : State) : Prop :=
  s.cq.merges.answer ≤ 65535 ∧ s.cq.merges.hangup ≤ 65535

/-- A part as a step leaves it: unchanged; time not moved back, no sticky flag cleared, nothing put on
the send queue; and an agreement of the invariant still kept. -/
def Part.same (s t : State) : Part → Prop
  | .time => s.now ≤ t.now
  | .commands => t.pending = s.pending
  | .loader => t.sl = s.sl
  | .resetHeld => t.ports.resetHeld = s.ports.resetHeld
  | .audioReady => t.ports.audioReady = s.ports.audioReady
  | .mediumBusy => t.ports.mediumBusy = s.ports.mediumBusy
  | .outputs => t.ports.earOut = s.ports.earOut ∧ t.ports.callOut = s.ports.callOut
  | .capture => t.cu = s.cu
  | .mix => t.me = s.me
  | .ownMute => t.wl.ownMute = s.wl.ownMute
  | .role => t.wl.role = s.wl.role ∧ t.wl.stepDown = s.wl.stepDown
  | .callFlag => t.bu.callFlag = s.bu.callFlag
  | .bridge => t.bu = s.bu
  | .window => t.ru.window = s.ru.window
  | .departed => t.ru.departed = s.ru.departed
  | .stations => t.ru.peers.map (·.station) = s.ru.peers.map (·.station)
  | .entries => t.ru.peers = s.ru.peers
  | .downlink => t.rq = s.rq
  | .link => t.lp = s.lp
  | .framesSent => t.lp.framesSent = s.lp.framesSent
  | .tests => t.lp.checkFailures = s.lp.checkFailures ∧ t.lp.foreignFrames = s.lp.foreignFrames ∧
      t.lp.numberClashes = s.lp.numberClashes
  | .turnedAway => t.ru.rosterFull = s.ru.rosterFull ∧ t.ru.codeMismatch = s.ru.codeMismatch
  | .assembler => t.sa = s.sa
  | .sendQueue => t.sa.queue.Sublist s.sa.queue ∧ t.sa.sendDrops = s.sa.sendDrops
  | .toggles => ∀ k, (t.cq.slots.get k).toggle = (s.cq.slots.get k).toggle
  | .slots => t.cq.slots = s.cq.slots
  | .latches => t.cq.latches = s.cq.latches
  | .merges => t.cq.merges = s.cq.merges ∧ t.cl.reportOverflows = s.cl.reportOverflows
  | .floor => t.cq.holder = s.cq.holder ∧ t.cq.grant = s.cq.grant ∧
      t.cq.floorQueue = s.cq.floorQueue
  | .view => t.cq.view = s.cq.view
  | .mask => t.cl.mask = s.cl.mask
  | .unknown => t.cl.unknownCommands = s.cl.unknownCommands
  | .outcomes => t.cl.outcomes = s.cl.outcomes
  | .reports => t.cl.sending = s.cl.sending ∧ t.cl.waiting = s.cl.waiting
  | .flags => ∀ f, s.flag f = true → t.flag f = true
  | .standings => t.ru.peers.map Peer.standing = s.ru.peers.map Peer.standing
  | .reportsOk => s.ReportsOk → t.ReportsOk
  | .roleOk => s.RoleOk → t.RoleOk
  | .dueOk => s.DueOk → t.DueOk
  | .linkOk => s.LinkOk → t.LinkOk
  | .sendQueueOk => s.SendQueueOk → t.SendQueueOk
  | .queuesOk => s.QueuesKept → t.QueuesKept
  | .callOk => s.CallOk → t.CallOk
  | .termOk => s.TermOk → t.TermOk
  | .mergesOk => s.MergesOk → t.MergesOk
  | .floorOk => s.FloorKept → t.FloorKept
  | .floorMembers => s.FloorMembers → t.FloorMembers

theorem Part.same_refl (s : State) (p : Part) : p.same s s := by
  cases p with
  | time => exact le_rfl
  | outputs | role | turnedAway | merges | reports => exact ⟨rfl, rfl⟩
  | tests | floor => exact ⟨rfl, rfl, rfl⟩
  | sendQueue => exact ⟨.refl _, rfl⟩
  | toggles => exact fun _ => rfl
  | reportsOk | roleOk | dueOk | linkOk | sendQueueOk | queuesOk | callOk | termOk | mergesOk | floorOk
  | floorMembers => exact id
  | flags => exact fun _ => id
  | _ => exact rfl

theorem Part.same_trans {s t u : State} {p : Part} (h : p.same s t) (h' : p.same t u) :
    p.same s u := by
  have pair {a b c d e f : Prop} (hac : a → c → e) (hbd : b → d → f) : a ∧ b → c ∧ d → e ∧ f :=
    fun ⟨ha, hb⟩ ⟨hc, hd⟩ => ⟨hac ha hc, hbd hb hd⟩
  cases p with
  | time => exact le_trans h h'
  | outputs | role | turnedAway | merges | reports => exact pair Eq.trans Eq.trans h' h
  | tests | floor => exact pair Eq.trans (pair Eq.trans Eq.trans) h' h
  | sendQueue => exact pair List.Sublist.trans Eq.trans h' h
  | toggles => exact fun k => (h' k).trans (h k)
  | reportsOk | roleOk | dueOk | linkOk | sendQueueOk | queuesOk | callOk | termOk | mergesOk | floorOk
  | floorMembers => exact fun hs => h' (h hs)
  | flags => exact fun f hf => h' f (h f hf)
  | _ => exact Eq.trans h' h

/-- What a frame handed to the Roster Unit may change. -/
def arrivalParts : List Part :=
  [.turnedAway, .role, .bridge, .departed, .stations, .entries, .downlink, .assembler, .slots,
   .latches, .merges, .floor, .view, .outcomes, .reports, .standings, .floorMembers]

/-- Nothing but the parts listed changes. -/
def State.Only (changed : List Part) (s t : State) : Prop := ∀ p, p ∉ changed → p.same s t

namespace State.Only

theorem refl (l : List Part) (s : State) : s.Only l s := fun p _ => p.same_refl s

theorem trans {l : List Part} {s t u : State} (h : State.Only l s t) (h' : State.Only l t u) :
    State.Only l s u := fun p hp => Part.same_trans (h p hp) (h' p hp)

theorem mono {l l' : List Part} {s t : State} (h : s.Only l t) (hl : l ⊆ l' := by decide) :
    s.Only l' t := fun p hp => h p fun hmem => hp (hl hmem)

/-- What a part is shown to keep need not be listed. -/
theorem keeping {p : Part} {l : List Part} {s t : State} (h : s.Only (p :: l) t) (hp : p.same s t) :
    s.Only l t := by
  intro q hq
  by_cases hqp : q = p
  · exact hqp ▸ hp
  · exact h q (by simp [hqp, hq])

/-- Two accounts of one change hold together. -/
theorem both {l l' : List Part} {s t : State} (h : s.Only l t) (h' : s.Only l' t) {m : List Part}
    (hm : l.filter (l'.contains ·) ⊆ m := by decide) : s.Only m t := by
  intro p hp
  by_cases hl : p ∈ l
  · by_cases hl' : p ∈ l'
    · exact absurd (hm (List.mem_filter.2 ⟨hl, by simpa using hl'⟩)) hp
    · exact h' p hl'
  · exact h p hl

/-! ## Shared operations -/

section
variable (s : State)

theorem setFlag (f : Sticky) : s.Only [] (s.setFlag f) := by
  intro p _
  have same := p.same_refl s
  cases p with
  | flags =>
    intro g hg
    rw [State.flag_setFlag, hg, Bool.true_or]
  | _ => exact same

theorem setFlagIf (c : Bool) (f : Sticky) : s.Only [] (s.setFlagIf c f) := by
  unfold State.setFlagIf
  split
  · exact setFlag s f
  · exact refl _ s

theorem catchUp (e : Nat) : s.Only [] (s.catchUp e) := by
  intro p _
  have same := p.same_refl s
  cases p with
  | time => exact Nat.le_max_left _ _
  | floorOk =>
    exact fun ⟨hshape, hgrant, hends⟩ => ⟨hshape, hgrant, fun t ht =>
      (hends t ht).trans (Nat.add_le_add_right (Nat.le_max_left _ _) _)⟩
  | _ => exact same

theorem of_radio (r : Option (List Byte)) :
    s.Only [] { s with ports := { s.ports with radioOut := r } } := by
  intro p hp
  have same := p.same_refl s
  cases p with
  | _ => exact same

theorem of_lp {x : LinkPort} (hsent : x.framesSent = s.lp.framesSent := by rfl)
    (htests : x.checkFailures = s.lp.checkFailures ∧ x.foreignFrames = s.lp.foreignFrames ∧
      x.numberClashes = s.lp.numberClashes := by exact ⟨rfl, rfl, rfl⟩) :
    s.Only [.linkOk, .link] { s with lp := x } := by
  intro p hp
  have same := p.same_refl s
  cases p with
  | framesSent => exact hsent
  | tests => exact htests
  | linkOk | link => exact absurd (by decide) hp
  | _ => exact same

theorem of_sa {x : SendAssembler} (hqueue : x.queue.Sublist s.sa.queue := by exact .refl _)
    (hdrops : x.sendDrops = s.sa.sendDrops := by rfl) :
    s.Only [.dueOk, .assembler] { s with sa := x } := by
  intro p hp
  have same := p.same_refl s
  cases p with
  | sendQueue => exact ⟨hqueue, hdrops⟩
  | sendQueueOk =>
    exact fun h => h.of_sublist (t := { s with sa := x }) hqueue hdrops rfl fun hne => .inl hne
  | dueOk | assembler => exact absurd (by decide) hp
  | _ => exact same

theorem of_cu (x : CaptureUnit) :
    s.Only [.roleOk, .sendQueueOk, .capture] { s with cu := x } := by
  intro p hp
  have same := p.same_refl s
  cases p with
  | roleOk | sendQueueOk | capture => exact absurd (by decide) hp
  | _ => exact same

theorem of_wl {x : WearerLogic} (h : x.ownMute = s.wl.ownMute := by rfl) :
    s.Only [.roleOk, .role] { s with wl := x } := by
  intro p hp
  have same := p.same_refl s
  cases p with
  | ownMute => exact h
  | roleOk | role => exact absurd (by decide) hp
  | _ => exact same

theorem of_rq (x : Downlink) :
    s.Only [.queuesOk, .downlink] { s with rq := x } := by
  intro p hp
  have same := p.same_refl s
  cases p with
  | queuesOk | downlink => exact absurd (by decide) hp
  | _ => exact same

theorem of_me (x : MixEngine) :
    s.Only [.mix] { s with me := x } := by
  intro p hp
  have same := p.same_refl s
  cases p with
  | mix => exact absurd (by decide) hp
  | _ => exact same

theorem of_bu {x : BridgeUnit} (h : x.callFlag = s.bu.callFlag := by rfl) :
    s.Only [.sendQueueOk, .callOk, .termOk, .bridge] { s with bu := x } := by
  intro p hp
  have same := p.same_refl s
  cases p with
  | callFlag => exact h
  | sendQueueOk | callOk | termOk | bridge => exact absurd (by decide) hp
  | _ => exact same

theorem of_followed (n : Option Nat) :
    s.Only [.bridge] { s with bu := { s.bu with followed := n } } := by
  intro p hp
  have same := p.same_refl s
  cases p with
  | bridge => exact absurd (by decide) hp
  | _ => exact same

theorem of_map {f : Peer → Peer} (hf : ∀ p, (f p).station = p.station) :
    s.Only [.standings, .queuesOk, .termOk, .floorMembers, .entries]
      { s with ru := { s.ru with peers := s.ru.peers.map f } } := by
  intro p hp
  have same := p.same_refl s
  cases p with
  | stations =>
    change (s.ru.peers.map f).map (·.station) = s.ru.peers.map (·.station)
    rw [List.map_map]
    exact List.map_congr_left fun p _ => hf p
  | standings | queuesOk | termOk | floorMembers | entries => exact absurd (by decide) hp
  | _ => exact same

/-- A change of the entries that keeps what they show keeps who stands in view. -/
theorem of_quiet_map {f : Peer → Peer} (hf : ∀ p, (f p).standing = p.standing) :
    s.Only [.queuesOk, .termOk, .entries] { s with ru := { s.ru with peers := s.ru.peers.map f } } := by
  have hmapped := of_map s (f := f) fun p => congrArg Prod.fst (hf p)
  refine keeping (p := .floorMembers) (keeping (p := .standings) hmapped.mono ?_) ?_
  · change (s.ru.peers.map f).map Peer.standing = s.ru.peers.map Peer.standing
    rw [List.map_map]
    exact List.map_congr_left fun p _ => hf p
  · intro h n hn
    refine (h n hn).imp_right fun ⟨p, hp, hstation, hstate⟩ => ⟨f p, List.mem_map_of_mem hp, ?_, ?_⟩
    · exact (congrArg Prod.fst (hf p)).trans hstation
    · exact (congrArg (·.2.1) (hf p)).trans hstate

theorem queuesOk_of_map {f : Peer → Peer} (hf : ∀ p, p.QueueOk → (f p).QueueOk) :
    Part.queuesOk.same s { s with ru := { s.ru with peers := s.ru.peers.map f } } := by
  rintro ⟨hdepth, hpeers, hrq⟩
  refine ⟨hdepth, fun p hp => ?_, hrq⟩
  obtain ⟨q, hq, rfl⟩ := List.mem_map.1 hp
  exact hf q (hpeers q hq)

theorem termOk_of_map {f : Peer → Peer} (hf : ∀ p, p.lastSeen = none → (f p).lastSeen = none) :
    Part.termOk.same s { s with ru := { s.ru with peers := s.ru.peers.map f } } := by
  rintro ⟨hvacant, hidle⟩
  refine ⟨fun hstate => ?_, hidle⟩
  obtain ⟨hholder, hgrant, hqueue, hanswer, hhangup, hnone⟩ := hvacant hstate
  refine ⟨hholder, hgrant, hqueue, hanswer, hhangup, fun p hp => ?_⟩
  obtain ⟨q, hq, rfl⟩ := List.mem_map.1 hp
  exact hf q (hnone q hq)

theorem of_table (x : List Peer) :
    s.Only [.standings, .queuesOk, .termOk, .floorMembers, .entries, .stations]
      { s with ru := { s.ru with peers := x } } := by
  intro p hp
  have same := p.same_refl s
  cases p with
  | standings | queuesOk | termOk | floorMembers | entries | stations => exact absurd (by decide) hp
  | _ => exact same

theorem of_departed (x : List Departed) :
    s.Only [.departed] { s with ru := { s.ru with departed := x } } := by
  intro p hp
  have same := p.same_refl s
  cases p with
  | departed => exact absurd (by decide) hp
  | _ => exact same

theorem of_window (x : Option Nat) :
    s.Only [.dueOk, .window] { s with ru := { s.ru with window := x } } := by
  intro p hp
  have same := p.same_refl s
  cases p with
  | dueOk | window => exact absurd (by decide) hp
  | _ => exact same

theorem of_slots {x : PerKind Slot}
    (h : ∀ k, (x.get k).toggle = (s.cq.slots.get k).toggle) :
    s.Only [.termOk, .slots] { s with cq := { s.cq with slots := x } } := by
  intro p hp
  have same := p.same_refl s
  cases p with
  | toggles => exact h
  | termOk | slots => exact absurd (by decide) hp
  | _ => exact same

theorem of_floor (n g : Option Nat) (q : List Nat) :
    s.Only [.termOk, .floorOk, .floorMembers, .floor]
      { s with cq := { s.cq with holder := n, grant := g, floorQueue := q } } := by
  intro p hp
  have same := p.same_refl s
  cases p with
  | termOk | floorOk | floorMembers | floor => exact absurd (by decide) hp
  | _ => exact same

theorem of_latches (x : PerLatch Bool) :
    s.Only [.termOk, .latches] { s with cq := { s.cq with latches := x } } := by
  intro p hp
  have same := p.same_refl s
  cases p with
  | termOk | latches => exact absurd (by decide) hp
  | _ => exact same

theorem of_merges (x : PerLatch Nat) :
    s.Only [.termOk, .mergesOk, .merges] { s with cq := { s.cq with merges := x } } := by
  intro p hp
  have same := p.same_refl s
  cases p with
  | termOk | mergesOk | merges => exact absurd (by decide) hp
  | _ => exact same

theorem of_view (x : Option FloorView) :
    s.Only [.view] { s with cq := { s.cq with view := x } } := by
  intro p hp
  have same := p.same_refl s
  cases p with
  | view => exact absurd (by decide) hp
  | _ => exact same

theorem of_outcomes (x : PerKind ReqOutcome) :
    s.Only [.outcomes] { s with cl := { s.cl with outcomes := x } } := by
  intro p hp
  have same := p.same_refl s
  cases p with
  | outcomes => exact absurd (by decide) hp
  | _ => exact same

theorem of_reports (x : Option Report) (w : List Report) :
    s.Only [.reports, .reportsOk] { s with cl := { s.cl with sending := x, waiting := w } } := by
  intro p hp
  have same := p.same_refl s
  cases p with
  | reports | reportsOk => exact absurd (by decide) hp
  | _ => exact same

end

end State.Only

namespace State.Only

section
variable (s : State)

theorem handedOver (k : FrameKind) :
    s.Only [.dueOk, .linkOk, .link, .assembler] (s.handedOver k) := by
  obtain ⟨hqueue, hdrops⟩ :=
    SendAssembler.formed_queue s.sa s.now (s.run .voice).length (s.run .call).length k
  have formed : s.Only [.dueOk, .linkOk, .link, .assembler] { s with sa := (s.formFrame k).1.sa } :=
    (of_sa (x := (s.formFrame k).1.sa) s hqueue hdrops).mono
  exact formed.trans ((of_radio _ _).mono.trans (of_lp _).mono)

theorem ask : s.Only [.linkOk, .link, .assembler] s.ask := by
  rcases s.ask_cases with ⟨_, h⟩ | ⟨k, hk, h⟩ <;> rw [h]
  · exact (of_lp s).mono
  · exact (handedOver s k).keeping (State.handedOver_dueOk hk)

/-- The reaction of the Link Port to what is due. -/
theorem linkReact : s.Only [.link, .assembler] s.linkReact := by
  have reacts : s.Only [.linkOk, .link, .assembler] s.linkReact := by
    rcases s.linkReact_cases with h | ⟨_, _, h⟩ | ⟨_, _, h⟩ | ⟨k, _, _, hk, h⟩ <;> rw [h]
    · exact refl _ s
    · exact (of_lp s).mono
    · exact (of_lp s).mono
    · exact (handedOver s k).keeping (State.handedOver_dueOk hk)
  exact reacts.keeping State.linkReact_linkOk

theorem askPresence : s.Only [.assembler] s.askPresence :=
  (of_sa s).keeping State.askPresence_dueOk

/-! ## Role and bridge -/

theorem takeLead : s.Only [.role] s.takeLead := by
  refine keeping (p := .roleOk) ?_ State.takeLead_roleOk
  unfold State.takeLead
  split
  · exact of_wl s
  · exact refl _ s

theorem stepDownEffect : s.Only [.roleOk, .role] s.stepDownEffect := by
  unfold State.stepDownEffect
  split
  · refine trans (t := { s with wl := { s.wl with role := .standby, stepDown := false } })
      (of_wl s) ?_
    dsimp only
    split
    · exact (takeLead _).mono
    · exact refl _ _
  · exact refl _ s

theorem evaluateRole : s.Only [.role] s.evaluateRole := by
  refine keeping (p := .roleOk) ?_ State.evaluateRole_roleOk
  unfold State.evaluateRole
  split
  · exact (takeLead s).mono
  · split
    · exact (of_wl s).trans (stepDownEffect _)
    · exact refl _ s

theorem mateEvent (isMate : Bool) : s.Only [.role] (s.mateEvent isMate) := by
  unfold State.mateEvent
  split
  · exact evaluateRole s
  · exact refl _ s

theorem flushDownlink : s.Only [.downlink] s.flushDownlink :=
  (of_rq s _).keeping fun ⟨hdepth, hpeers, hrq⟩ => ⟨hdepth, hpeers, hrq.flush⟩

theorem evaluateFollowed : s.Only [.bridge, .downlink, .view] s.evaluateFollowed := by
  unfold State.evaluateFollowed
  split
  · exact refl _ s
  · exact (of_followed s _).mono.trans ((setFlag _ _).mono.trans ((flushDownlink _).mono.trans
      (of_view _ _).mono))

theorem enterYielded : s.Only [.sendQueueOk, .callOk, .termOk, .bridge] s.enterYielded :=
  (of_bu s).trans (setFlag _ _).mono

theorem enterClaiming : s.Only [.sendQueueOk, .callOk, .termOk, .bridge] s.enterClaiming := by
  unfold State.enterClaiming
  refine trans (t := { s with bu := { s.bu with
    state := .claiming, settle := some (s.now + settleTime) } }) (of_bu s) ?_
  dsimp only
  split
  · exact enterYielded _
  · exact refl _ _

/-- A Bridge Unit that was not ACTIVE has no CALL entry and no term to lose. -/
theorem enterClaiming_of_inactive (h : s.bu.state ≠ .active) :
    s.Only [.callOk, .bridge] s.enterClaiming :=
  keeping (p := .termOk) (keeping (p := .sendQueueOk) (enterClaiming s).mono
    (State.enterClaiming_sendQueueOk h))
    (State.enterClaiming_termOk h)

theorem enterYielded_of_inactive (h : s.bu.state ≠ .active) :
    s.Only [.callOk, .bridge] s.enterYielded :=
  keeping (p := .termOk) (keeping (p := .sendQueueOk) (enterYielded s).mono fun hs => hs.with_bu h _)
    fun hs => hs.with_bu h nofun

theorem record (k : ReqKind) (o : ReqOutcome) : s.Only [.outcomes] (s.record k o) :=
  (of_outcomes s _).trans (setFlag _ _).mono

/-- Latches cleared are nothing more of a term. -/
theorem clearLatch (k : LatchKind) :
    s.Only [.latches] { s with cq := { s.cq with latches := s.cq.latches.set k false } } := by
  refine (of_latches s _).keeping fun ⟨hvacant, hidle⟩ => ⟨fun hstate => ?_, hidle⟩
  obtain ⟨hholder, hgrant, hqueue, hanswer, hhangup, hseen⟩ := hvacant hstate
  refine ⟨hholder, hgrant, hqueue, ?_, ?_, hseen⟩
  · cases k <;> simp [PerLatch.set, hanswer]
  · cases k <;> simp [PerLatch.set, hhangup]

theorem dropLatch (k : LatchKind) : s.Only [.latches, .outcomes] (s.dropLatch k) := by
  unfold State.dropLatch
  split
  · exact (clearLatch s k).mono.trans (record _ _ _).mono
  · exact refl _ s

/-- The floor falls empty. -/
theorem vacateFloor :
    s.Only [.floor] { s with cq := { s.cq with holder := none, grant := none, floorQueue := [] } } := by
  refine keeping (p := .floorMembers) (keeping (p := .floorOk) (keeping (p := .termOk)
    (of_floor s none none []).mono ?_) ?_) ?_
  · rintro ⟨hvacant, hidle⟩
    refine ⟨fun hstate => ?_, hidle⟩
    obtain ⟨_, _, _, hrest⟩ := hvacant hstate
    exact ⟨rfl, rfl, rfl, hrest⟩
  · exact fun _ => .vacant rfl rfl rfl
  · exact fun _ n hn => absurd hn (List.not_mem_nil)

/-- No toggles are seen any more. -/
theorem unsee : s.Only [.entries] { s with ru := { s.ru with
    peers := s.ru.peers.map (fun p => { p with lastSeen := none }) } } :=
  keeping (p := .termOk) (keeping (p := .queuesOk) (of_quiet_map s fun _ => rfl)
    (queuesOk_of_map s fun _ h => h)) (termOk_of_map s fun _ _ => rfl)

theorem endTerm : s.Only [.entries, .latches, .floor, .outcomes] s.endTerm :=
  (setFlagIf s _ _).mono.trans ((vacateFloor _).mono.trans ((dropLatch _ .answer).mono.trans
    ((dropLatch _ .hangup).mono.trans (unsee _).mono)))

theorem leaveActive :
    s.Only [.assembler, .entries, .latches, .floor, .outcomes] s.leaveActive :=
  trans (t := s.removeCalls) (mono (keeping (p := .dueOk) (of_sa s List.filter_sublist) id))
    (endTerm _).mono

theorem enterOff :
    s.Only [.callOk, .bridge, .assembler, .entries, .latches, .floor, .outcomes] s.enterOff := by
  refine keeping (p := .termOk) (keeping (p := .sendQueueOk) ?_ State.enterOff_sendQueueOk)
    State.enterOff_termOk
  unfold State.enterOff
  refine trans (t := if s.bu.state = .active then s.leaveActive else s) ?_ (of_bu _).mono
  split
  · exact (leaveActive s).mono
  · exact refl _ s

theorem evaluateState :
    s.Only [.bridge, .assembler, .entries, .latches, .floor, .outcomes] s.evaluateState := by
  refine keeping (p := .callOk) (keeping (p := .termOk) (keeping (p := .sendQueueOk) ?_
    State.evaluateState_sendQueueOk) State.evaluateState_termOk) State.evaluateState_callOk
  rcases s.evaluateState_cases with h | ⟨_, h⟩ | ⟨_, _, h⟩ | ⟨_, h⟩ <;> rw [h]
  · exact refl _ s
  · exact (enterYielded s).mono
  · exact (enterClaiming s).mono
  · exact (leaveActive s).mono.trans (enterYielded _).mono

theorem evaluateBridge : s.Only [.bridge, .assembler, .entries, .latches, .floor, .outcomes,
    .downlink, .view] s.evaluateBridge :=
  (evaluateState s).mono.trans (evaluateFollowed _).mono

/-! ## Floor, latches, slots and requests -/

theorem endGrant : s.Only [.floor] s.endGrant := by
  have changed : s.Only [.termOk, .floorOk, .floorMembers, .floor] s.endGrant := by
    unfold State.endGrant
    split <;> exact (of_floor s _ _ _).trans (setFlag _ _).mono
  refine keeping (p := .floorMembers) (keeping (p := .floorOk) (keeping (p := .termOk) changed.mono ?_)
    State.endGrant_kept) State.endGrant_members
  rintro ⟨hvacant, hidle⟩
  have hbu : s.endGrant.bu = s.bu := by simp
  have hru : s.endGrant.ru = s.ru := by simp
  have hslots : s.endGrant.cq.slots = s.cq.slots := changed .slots (by decide)
  have hlatches : s.endGrant.cq.latches = s.cq.latches := changed .latches (by decide)
  have hmerges : s.endGrant.cq.merges = s.cq.merges := (changed .merges (by decide)).1
  rw [State.TermOk, hbu, hru, hslots, hlatches, hmerges]
  refine ⟨fun hstate => ?_, hidle⟩
  obtain ⟨_, _, hqueue, hrest⟩ := hvacant hstate
  rw [State.endGrant_of_none_waiting hqueue]
  exact ⟨rfl, rfl, hqueue, hrest⟩

theorem requestFloor (n : Nat) : s.Only [.termOk, .floorMembers, .floor] (s.requestFloor n) := by
  refine keeping (p := .floorOk) ?_ (State.requestFloor_kept n)
  unfold State.requestFloor
  split_ifs
  · exact (of_floor s _ _ _).mono
  · exact refl _ s
  · exact (of_floor s _ _ _).mono
  · exact (of_floor s _ _ _).mono.trans (setFlag _ _).mono

theorem leaveFloor (n : Nat) : s.Only [.floor] (s.leaveFloor n) := by
  by_cases hn : s.cq.holder = some n
  · rw [State.leaveFloor_of_holder hn]
    exact endGrant s
  · refine keeping (p := .floorMembers) (keeping (p := .floorOk) (keeping (p := .termOk) ?_ ?_)
      (State.leaveFloor_kept n)) (State.leaveFloor_members n)
    all_goals rw [State.leaveFloor_of_not_holder hn]
    · exact (of_floor s _ _ _).mono
    · rintro ⟨hvacant, hidle⟩
      refine ⟨fun hstate => ?_, hidle⟩
      obtain ⟨hholder, hgrant, hqueue, hrest⟩ := hvacant hstate
      exact ⟨hholder, hgrant, by rw [hqueue]; rfl, hrest⟩

theorem floorNotice (n : Nat) : s.Only [.floor] (s.floorNotice n) := by
  unfold State.floorNotice
  split
  · exact leaveFloor s n
  · exact refl _ s

theorem pushReport (r : Report) : s.Only [.reports, .reportsOk] (s.pushReport r) := by
  unfold State.pushReport
  split <;> exact of_reports s _ _

theorem of_overflows (n : Nat) :
    s.Only [.merges, .reportsOk] { s with cl := { s.cl with reportOverflows := n } } := by
  intro p hp
  have same := p.same_refl s
  cases p with
  | merges | reportsOk => exact absurd (by decide) hp
  | _ => exact same

theorem formRequest (k : LatchKind) : s.Only [.merges, .reports] (s.formRequest k) := by
  refine keeping (p := .reportsOk) ?_ (s.formRequest_legal k)
  unfold State.formRequest
  split
  · exact (of_overflows s _).mono
  · exact (pushReport s _).mono

theorem setLatch (k : LatchKind) :
    s.Only [.termOk, .latches, .merges, .reports] (s.setLatch k) := by
  unfold State.setLatch
  split
  · refine ((of_merges s _).mono (l' := [.mergesOk, .termOk, .latches, .merges, .reports])).keeping ?_
    rintro ⟨hanswer, hhangup⟩
    cases k
    · exact ⟨min_le_left _ _, hhangup⟩
    · exact ⟨hanswer, min_le_left _ _⟩
  · exact (of_latches s _).mono.trans (formRequest _ k).mono

/-- What acting on a request may change. -/
theorem act (k : ReqKind) (n : Nat) :
    s.Only [.termOk, .floorMembers, .latches, .merges, .reports, .floor, .assembler] (s.act k n) := by
  cases k with
  | answer => exact (setLatch s .answer).mono.trans (askPresence _).mono
  | hangup => exact (setLatch s .hangup).mono.trans (askPresence _).mono
  | floor => exact (requestFloor s n).mono.trans (askPresence _).mono
  | yield => exact (leaveFloor s n).mono.trans (askPresence _).mono

theorem actAll (w : PerKind Bool) (n : Nat) :
    s.Only [.termOk, .floorMembers, .latches, .merges, .reports, .floor, .assembler]
      (s.actAll w n) := by
  have kind (t : State) (k : ReqKind) :
      t.Only [.termOk, .floorMembers, .latches, .merges, .reports, .floor, .assembler]
        (if w.get k then t.act k n else t) := by
    split
    · exact act t k n
    · exact refl _ t
  exact (kind _ .answer).trans ((kind _ .hangup).trans ((kind _ .floor).trans (kind _ .yield)))

theorem queuesOk_of_mapPeer {n : Nat} {f : Peer → Peer} (hf : ∀ p, p.QueueOk → (f p).QueueOk) :
    Part.queuesOk.same s (s.mapPeer n f) :=
  queuesOk_of_map s fun p hp => by
    split
    · exact hf p hp
    · exact hp

theorem termOk_of_mapPeer {n : Nat} {f : Peer → Peer}
    (hf : ∀ p, p.lastSeen = none → (f p).lastSeen = none) : Part.termOk.same s (s.mapPeer n f) :=
  termOk_of_map s fun p hp => by
    split
    · exact hf p hp
    · exact hp

theorem mapPeer {n : Nat} {f : Peer → Peer} (hf : ∀ p, (f p).station = p.station)
    (hqueue : ∀ p, p.QueueOk → (f p).QueueOk := by exact fun _ h => h)
    (hseen : ∀ p, p.lastSeen = none → (f p).lastSeen = none := by exact fun _ h => h) :
    s.Only [.standings, .floorMembers, .entries] (s.mapPeer n f) := by
  refine keeping (p := .termOk) (keeping (p := .queuesOk) (of_map s
    (f := fun p => if p.station = n then f p else p) fun p => ?_).mono
    (queuesOk_of_mapPeer s hqueue)) (termOk_of_mapPeer s hseen)
  split
  · exact hf p
  · rfl

/-- A change of one entry that keeps what it shows. -/
theorem mapPeer_quiet {n : Nat} {f : Peer → Peer} (hf : ∀ p, (f p).standing = p.standing) :
    s.Only [.queuesOk, .termOk, .entries] (s.mapPeer n f) := by
  refine of_quiet_map s (f := fun p => if p.station = n then f p else p) fun p => ?_
  split
  · exact hf p
  · rfl

theorem seeToggles (n : Nat) (t : PerKind Bool) : s.Only [.termOk, .entries] (s.seeToggles n t) :=
  have hquiet : s.Only [.queuesOk, .termOk, .entries] (s.seeToggles n t) :=
    mapPeer_quiet s fun _ => rfl
  hquiet.keeping (queuesOk_of_mapPeer s fun _ hp => hp)

theorem baseline (n : Nat) (h : SenderState) :
    s.Only [.termOk, .floorMembers, .entries, .latches, .merges, .reports, .floor, .assembler]
      (s.baseline n h) :=
  (seeToggles s n _).mono.trans (actAll _ _ n).mono

theorem bridgeHeader (n : Nat) (h : SenderState) :
    s.Only [.termOk, .floorMembers, .entries, .latches, .merges, .reports, .floor, .assembler]
      (s.bridgeHeader n h) := by
  unfold State.bridgeHeader
  split
  · exact refl _ s
  · split
    · exact baseline s n h
    · exact (seeToggles s n _).mono.trans (actAll _ _ n).mono

/-- While ACTIVE a term is kept by whatever leaves state, slots and the bound of the merge counts. -/
theorem termOk_of_active {l : List Part} {t : State} (h : State.Only l s t)
    (hactive : s.bu.state = .active) (hl : l.contains .bridge = false ∧ l.contains .slots = false ∧
      l.contains .mergesOk = false := by decide) (hs : s.TermOk) : t.TermOk := by
  obtain ⟨hbridge, hslots, hmergesOk⟩ := hl
  have kept {p : Part} (hp : l.contains p = false) : p.same s t :=
    h p fun hmem => by rw [List.contains_iff_mem.2 hmem] at hp; cases hp
  have hbu : t.bu = s.bu := kept (p := .bridge) hbridge
  have hsl : t.cq.slots = s.cq.slots := kept (p := .slots) hslots
  obtain ⟨_, hidle, _, hmerges⟩ := hs
  refine State.termOk_of_active (hbu ▸ hactive) (fun k => ?_) (kept (p := .mergesOk) hmergesOk hmerges)
  rw [hsl]
  exact hidle hactive k (mem_allKinds k)

theorem setSlot {k : ReqKind} {sl : Slot} (h : sl.toggle = (s.cq.slots.get k).toggle := by rfl)
    (hpending : sl.pending = true → (s.cq.slots.get k).pending = true ∧ sl.late = false) :
    s.Only [.slots] (s.setSlot k sl) := by
  refine (of_slots s fun j => ?_).keeping (State.setSlot_termOk hpending)
  by_cases hj : j = k
  · subst hj
    rw [PerKind.get_set_same, h]
  · rw [PerKind.get_set_other _ hj]

/-- A slot settled is not PENDING. -/
theorem settleSlot (k : ReqKind) : s.Only [.slots] (s.setSlot k (s.cq.slots.get k).settle) :=
  setSlot s rfl nofun

theorem clearLate (k : ReqKind) :
    s.Only [.slots] (s.setSlot k { s.cq.slots.get k with late := false }) :=
  setSlot s rfl fun hpending => ⟨hpending, rfl⟩

theorem echoKind (k : ReqKind) (b : Bool) : s.Only [.slots, .outcomes] (s.echoKind k b) := by
  unfold State.echoKind
  dsimp only
  split
  · split
    · exact (settleSlot s k).mono.trans (record _ _ _).mono
    · split
      · exact (clearLate s k).mono.trans (record _ _ _).mono
      · exact refl _ s
  · exact refl _ s

theorem takeEcho (t : PerKind Bool) : s.Only [.slots, .outcomes] (s.takeEcho t) :=
  (echoKind s .answer _).trans ((echoKind _ .hangup _).trans ((echoKind _ .floor _).trans
    (echoKind _ .yield _)))

theorem takeExtras (n : Nat) (x : Extras) :
    s.Only [.slots, .outcomes, .view] (s.takeExtras n x) := by
  by_cases h : s.bu.followed = some n
  · rw [State.takeExtras_of_followed h]
    cases x.echoes.find? (fun e => e.station = s.own) with
    | none => exact (of_view s _).mono
    | some e => exact (takeEcho s _).mono.trans (of_view _ _).mono
  · rw [State.takeExtras_of_other h]
    exact refl _ s

theorem ownKind (k : ReqKind) : s.Only [.termOk, .floorMembers, .slots, .outcomes, .latches,
    .merges, .reports, .floor, .assembler] (s.ownKind k) := by
  unfold State.ownKind
  dsimp only
  split
  · exact (settleSlot s k).mono.trans ((record _ _ _).mono.trans (act _ _ _).mono)
  · exact refl _ s

theorem firstLook (n : Nat) : s.Only [.termOk, .floorMembers, .slots, .outcomes, .latches, .merges,
    .reports, .floor, .assembler, .entries] (s.firstLook n) := by
  unfold State.firstLook
  split
  · exact (ownKind s .answer).mono.trans ((ownKind _ .hangup).mono.trans
      ((ownKind _ .floor).mono.trans (ownKind _ .yield).mono))
  · split
    · exact (baseline s n _).mono
    · exact refl _ s

theorem firstView : s.Only [.termOk, .floorMembers, .slots, .outcomes, .latches, .merges, .reports,
    .floor, .assembler, .entries] s.firstView := by
  have fold (l : List Nat) : ∀ t : State, t.Only [.termOk, .floorMembers, .slots, .outcomes,
      .latches, .merges, .reports, .floor, .assembler, .entries] (l.foldl State.firstLook t) := by
    induction l with
    | nil => exact refl _
    | cons n l ih => exact fun t => (firstLook t n).trans (ih _)
  exact fold _ s

theorem enterActive (h : s.bu.state ≠ .active) : s.Only [.callOk, .termOk, .floorMembers, .bridge,
    .downlink, .view, .mix, .slots, .outcomes, .latches, .merges, .reports, .floor, .assembler,
    .entries] s.enterActive := by
  refine trans (t := { s with bu := { s.bu with state := .active, settle := none } }) ?_
    ((evaluateFollowed _).mono.trans ((of_me _ _).mono.trans (firstView _).mono))
  exact keeping (p := .sendQueueOk) (of_bu s).mono fun hs => hs.with_bu h _

theorem slotsIdle : s.Only [.slots, .floor] s.slotsIdle := by
  have slots : s.Only [.slots] { s with cq := { s.cq with slots := s.slotsIdle.cq.slots } } := by
    refine (of_slots s fun k => by rw [s.slotsIdle_get k]).keeping fun ⟨hvacant, _, _, hmerges⟩ =>
      ⟨hvacant, fun _ k _ => ?_, fun k _ hpending => ?_, hmerges⟩
    · change (s.slotsIdle.cq.slots.get k).pending = false
      rw [s.slotsIdle_get k]
      rfl
    · change (s.slotsIdle.cq.slots.get k).late = false
      rw [s.slotsIdle_get k]
  refine trans (t := { s with cq := { s.cq with slots := s.slotsIdle.cq.slots } }) slots.mono ?_
  refine keeping (p := .floorMembers) (keeping (p := .floorOk) (keeping (p := .termOk)
    (of_floor _ _ _ _).mono ?_) ?_) ?_
  · rintro ⟨hvacant, hidle⟩
    refine ⟨fun hstate => ?_, hidle⟩
    obtain ⟨hholder, hgrant, hqueue, hrest⟩ := hvacant hstate
    exact ⟨hholder, hgrant, congrArg (List.filter _) hqueue, hrest⟩
  · rintro ⟨⟨hnodup, hnone⟩, hgrant⟩
    refine ⟨⟨?_, fun hholder => congrArg (List.filter _) (hnone hholder)⟩, hgrant⟩
    exact hnodup.sublist (List.Sublist.append_left List.filter_sublist _)
  · intro h n hn
    rcases List.mem_append.1 hn with hn | hn
    · exact h n (List.mem_append_left _ hn)
    · exact h n (List.mem_append_right _ (List.mem_of_mem_filter hn))

theorem leaveRequests : s.Only [.slots, .floor] s.leaveRequests := by
  by_cases h : ∃ n, s.cq.holder = some n ∧ n ≠ s.own
  · obtain ⟨n, hn, hne⟩ := h
    rw [State.leaveRequests_of_other hn hne]
    exact (slotsIdle s).trans (endGrant _).mono
  · rw [State.leaveRequests_of_own_or_vacant fun n hn =>
      Classical.byContradiction fun hne => h ⟨n, hn, hne⟩]
    exact slotsIdle s

/-! ## Arrivals -/

theorem requestHeader (n : Nat) (h : SenderState) (x : Option Extras) :
    s.Only [.floorMembers, .entries, .slots, .latches, .merges, .reports, .floor, .assembler,
      .outcomes, .view] (s.requestHeader n h x) := by
  have header : s.Only [.floorMembers, .entries, .slots, .latches, .merges, .reports, .floor,
      .assembler, .outcomes, .view] (if s.bu.state = .active then s.bridgeHeader n h else s) := by
    split
    · next hactive =>
      have taken := bridgeHeader s n h
      exact keeping (p := .termOk) taken.mono (termOk_of_active s taken hactive)
    · exact refl _ s
  cases x with
  | none => exact header
  | some x => exact header.trans (takeExtras _ n x).mono

/-- What a notice may change. -/
theorem notice (n : Nat) (isMate : Bool) : s.Only [.role, .bridge, .assembler, .entries, .latches,
    .floor, .outcomes, .downlink, .view] (s.notice n isMate) :=
  (mateEvent s _).mono.trans ((evaluateBridge _).mono.trans (floorNotice _ n).mono)

/-- Fewer entries keep their queues, and no more toggles are seen. -/
theorem of_fewer_peers {x : List Peer} (h : x ⊆ s.ru.peers) :
    s.Only [.standings, .floorMembers, .entries, .stations] { s with ru := { s.ru with peers := x } } := by
  refine keeping (p := .termOk) (keeping (p := .queuesOk) (of_table s x).mono ?_) ?_
  · exact fun ⟨hdepth, hpeers, hrq⟩ => ⟨hdepth, fun p hp => hpeers p (h hp), hrq⟩
  · rintro ⟨hvacant, hidle⟩
    refine ⟨fun hstate => ?_, hidle⟩
    obtain ⟨hholder, hgrant, hqueue, hanswer, hhangup, hnone⟩ := hvacant hstate
    exact ⟨hholder, hgrant, hqueue, hanswer, hhangup, fun p hp => hnone p (h hp)⟩

theorem removePeer (p : Peer) : s.Only [.standings, .floorMembers, .role, .bridge, .assembler,
    .entries, .stations, .latches, .floor, .outcomes, .downlink, .view] (s.removePeer p) := by
  unfold State.removePeer
  refine trans (t := { s with ru := { s.ru with peers := erasePeer p.station s.ru.peers } })
    (of_fewer_peers s List.filter_sublist.subset).mono ?_
  dsimp only
  split
  · exact (notice _ _ _).mono
  · exact refl _ _

end


section
variable (s : State)

theorem handHeader (f : Frame) (wasMate : Bool) : s.Only arrivalParts (s.handHeader f wasMate) :=
  (mateEvent s _).mono.trans ((evaluateBridge _).mono.trans (requestHeader _ _ _ _).mono)

/-- Sections with levels in range keep the queues in bounds. -/
theorem placeVoice (n : Nat) (t : TalkSection) :
    s.Only [.queuesOk, .entries] (s.placeVoice n t) := by
  cases h : (s.peer n).bind (·.queue) with
  | none =>
    rw [State.placeVoice_of_none h]
    exact refl _ s
  | some q =>
    rw [State.placeVoice_of_queue h]
    refine trans (t := s.mapPeer n (fun p => { p with
      queue := some (q.placeAll s.cfg.depth (numberBlocks t.first t.blocks)).1 })) ?_ (setFlagIf _ _ _).mono
    refine keeping (p := .termOk) (mono (mapPeer_quiet s fun _ => rfl)) ?_
    exact termOk_of_mapPeer s fun _ hp => hp

theorem placeCall (n : Nat) (t : TalkSection) : s.Only [.queuesOk, .downlink] (s.placeCall n t) := by
  unfold State.placeCall
  split
  · exact (of_rq s _).trans (setFlagIf _ _ _).mono
  · exact refl _ s

theorem handSections (f : Frame) : s.Only (.queuesOk :: arrivalParts) (s.handSections f) := by
  unfold State.handSections
  split
  · exact (placeVoice s _ _).mono.trans (placeCall _ _ _).mono
  · exact refl _ s
  · exact refl _ s
  · exact refl _ s

theorem admission (f : Frame) : s.Only arrivalParts (s.admission f) := by
  unfold State.admission
  refine trans (t := ((s.setFlag .peerJoined).mapPeer f.header.station (fun p => { p with
    queue := some (RxQueue.cleared QueueCounts.zero) })).askPresence) ?_ ?_
  · refine trans (t := s.setFlag .peerJoined) (setFlag s _).mono (trans
      (t := (s.setFlag .peerJoined).mapPeer f.header.station _) ?_ (askPresence _).mono)
    exact mono (mapPeer _ (fun _ => rfl) fun _ _ =>
      decide_eq_true (RxQueue.cleared_ok (c := QueueCounts.zero) (by decide)))
  · dsimp only
    split
    · next hactive =>
      have based := baseline (((s.setFlag .peerJoined).mapPeer f.header.station (fun p => { p with
        queue := some (RxQueue.cleared QueueCounts.zero) })).askPresence) f.header.station f.header.sender
      exact (keeping (p := .termOk) based.mono (termOk_of_active _ based hactive)).trans
        (handHeader _ f false)
    · exact handHeader _ f false

theorem undepart (n : Nat) : s.Only [.departed] (s.undepart n) := of_departed s _

theorem depart (n : Nat) : s.Only [.departed] (s.depart n) := of_departed s _

/-- A new entry brings no queue and no toggles seen. -/
theorem addPeer {p : Peer} (hqueue : p.queue = none := by rfl) (hseen : p.lastSeen = none := by rfl) :
    s.Only [.standings, .floorMembers, .entries, .stations] (s.addPeer p) := by
  refine keeping (p := .termOk) (keeping (p := .queuesOk) (of_table s _).mono ?_) ?_
  · refine fun ⟨hdepth, hpeers, hrq⟩ => ⟨hdepth, fun q hq => ?_, hrq⟩
    rcases mem_insertPeer.1 hq with rfl | hq
    · rw [Peer.QueueOk, hqueue]
      rfl
    · exact hpeers q hq
  · rintro ⟨hvacant, hidle⟩
    refine ⟨fun hstate => ?_, hidle⟩
    obtain ⟨hholder, hgrant, hwaiting, hanswer, hhangup, hnone⟩ := hvacant hstate
    refine ⟨hholder, hgrant, hwaiting, hanswer, hhangup, fun q hq => ?_⟩
    rcases mem_insertPeer.1 hq with rfl | hq
    · exact hseen
    · exact hnone q hq

theorem tableFull : s.Only [.turnedAway] s.tableFull := by
  refine trans (t := { s with ru := { s.ru with rosterFull := countUp s.ru.rosterFull 1 } }) ?_
    (setFlag _ _).mono
  intro p hp
  have same := p.same_refl s
  cases p with
  | turnedAway => exact absurd (.head _) hp
  | _ => exact same

theorem introduceHailed (f : Frame) (counted : Bool) :
    s.Only arrivalParts (s.introduceHailed f counted) := by
  unfold State.introduceHailed
  dsimp only
  split
  · refine trans (t := s.mapPeer f.header.station _)
      (mono (l := [.standings, .floorMembers, .entries]) ?_) (admission _ f)
    cases counted with
    | true => exact mapPeer s fun _ => rfl
    | false => exact mapPeer s fun _ => rfl
  · exact refl _ s

theorem introduceNew (f : Frame) : s.Only arrivalParts (s.introduceNew f) := by
  unfold State.introduceNew
  split
  · split
    · exact (tableFull s).mono
    · exact (addPeer s).mono.trans (admission _ f)
  · exact refl _ s

theorem pairNew (f : Frame) (heard : List Nat) : s.Only arrivalParts (s.pairNew f heard) := by
  unfold State.pairNew
  split
  · exact (tableFull s).mono
  · refine (undepart s f.header.station).mono.trans ?_
    dsimp only
    split
    · exact (addPeer _).mono.trans (admission _ f)
    · exact (addPeer _).mono.trans (introduceHailed _ f true)

theorem pairHailed (f : Frame) (heard : List Nat) : s.Only arrivalParts (s.pairHailed f heard) := by
  unfold State.pairHailed
  refine trans (t := (s.undepart f.header.station).mapPeer f.header.station (fun p =>
    { (p.countFrame.takeFrame s.own s.now f) with hailMark := true })) ?_ ?_
  · exact trans (t := s.undepart f.header.station) (undepart s _).mono
      (mono (mapPeer _ fun _ => rfl))
  · dsimp only
    split
    · refine trans (t := State.mapPeer _ f.header.station (fun p => { p with state := .admitted }))
        (mono (mapPeer _ fun _ => rfl)) (admission _ f)
    · exact introduceHailed _ f true

theorem refreshPeer (f : Frame) (p : Peer) : s.Only (.queuesOk :: arrivalParts) (s.refreshPeer f p) := by
  refine trans (t := s.mapPeer f.header.station (fun p => p.refreshed s f)) ?_ ?_
  · exact mono (mapPeer s fun _ => rfl)
  · exact (handHeader _ f _).mono.trans (handSections _ f)

theorem leaveFrame (n : Nat) : s.Only arrivalParts (s.leaveFrame n) := by
  have removed : s.Only arrivalParts (match s.peer n with
      | some p => (s.removePeer p).setFlagIf p.seen .peerLeft
      | none => s) := by
    cases s.peer n with
    | none => exact refl _ s
    | some p => exact (removePeer s p).mono.trans (setFlagIf _ _ _).mono
  exact removed.trans (depart _ n).mono

/-- An arrival refreshes an entry, sections and all, or touches no queue that holds anything. -/
theorem takeArrival_cases (f : Frame) :
    s.Only arrivalParts (s.takeArrival f) ∨ ∃ p, s.takeArrival f = s.refreshPeer f p := by
  by_cases hkind : f.header.kind = .leave
  · rw [State.takeArrival_of_leave hkind]
    exact .inl (leaveFrame s _)
  by_cases hcode : s.OwnCode f
  · by_cases hpair : s.ru.window.isSome = true ∧ ∃ code heard, f.body = .hail code heard
    · obtain ⟨hopen, code, heard, hbody⟩ := id hpair
      cases hp : s.peer f.header.station with
      | none =>
        rw [(State.takeArrival_of_none hkind hcode hp).1 code heard hbody hopen]
        exact .inl (pairNew s f heard)
      | some p =>
        by_cases hstate : p.state = .hailed
        · rw [(State.takeArrival_of_hailed hkind hcode hp hstate).1 code heard hbody hopen]
          exact .inl (pairHailed s f heard)
        · rw [State.takeArrival_of_seen hkind hcode hp hstate]
          exact .inr ⟨p, rfl⟩
    · cases hp : s.peer f.header.station with
      | none =>
        rw [(State.takeArrival_of_none hkind hcode hp).2 hpair]
        exact .inl (introduceNew s f)
      | some p =>
        by_cases hstate : p.state = .hailed
        · rw [(State.takeArrival_of_hailed hkind hcode hp hstate).2 hpair]
          exact .inl (introduceHailed s f false)
        · rw [State.takeArrival_of_seen hkind hcode hp hstate]
          exact .inr ⟨p, rfl⟩
  · rw [State.takeArrival_of_other_code hkind hcode]
    refine .inl fun p hp => ?_
    have same := p.same_refl s
    cases p with
    | turnedAway => exact absurd (.head _) hp
    | _ => exact same

theorem takeArrival (f : Frame) : s.Only (.queuesOk :: arrivalParts) (s.takeArrival f) := by
  rcases takeArrival_cases s f with h | ⟨p, h⟩
  · exact h.mono
  · rw [h]
    exact refreshPeer s f p

/-- The receive filter counts what it drops and hands on the rest (R2). -/
theorem filterFrame (bytes : List Byte) (good : Bool) :
    s.Only (.link :: .tests :: .queuesOk :: arrivalParts) (s.filterFrame bytes good) := by
  have counts {x : LinkPort} (h : x.framesSent = s.lp.framesSent)
      (hlink : s.LinkOk → ({ s with lp := x } : State).LinkOk) :
      s.Only (.link :: .tests :: .queuesOk :: arrivalParts) { s with lp := x } := by
    intro p hp
    have same := p.same_refl s
    cases p with
    | link | tests => exact absurd (by decide) hp
    | framesSent => exact h
    | linkOk => exact hlink
    | _ => exact same
  unfold State.filterFrame
  split
  · split
    · exact counts rfl fun ⟨hcw, hcount, hdrawn, hslot, hsent, hframes, _, hrest⟩ =>
        ⟨hcw, hcount, hdrawn, hslot, hsent, hframes, min_le_left _ _, hrest⟩
    · split
      · exact counts rfl fun ⟨hcw, hcount, hdrawn, hslot, hsent, hframes, hchecks, _, hclashes⟩ =>
          ⟨hcw, hcount, hdrawn, hslot, hsent, hframes, hchecks, min_le_left _ _, hclashes⟩
      · split
        · refine (counts (x := { s.lp with numberClashes := countUp s.lp.numberClashes 1 }) rfl
            fun ⟨hcw, hcount, hdrawn, hslot, hsent, hframes, hchecks, hforeign, _⟩ =>
            ⟨hcw, hcount, hdrawn, hslot, hsent, hframes, hchecks, hforeign, min_le_left _ _⟩).trans
            (setFlag _ _).mono
        · exact (takeArrival s _).mono
  · exact counts rfl fun ⟨hcw, hcount, hdrawn, hslot, hsent, hframes, _, hrest⟩ =>
      ⟨hcw, hcount, hdrawn, hslot, hsent, hframes, min_le_left _ _, hrest⟩

end

end State.Only

end Sys2Proof.Machine
end

section
/-! PROOFS. What each command may change, part by part. -/

-- Some hundred short lemmas, each resting on the one before: elaborated one after another, since
-- side by side they only wait for each other.
set_option Elab.async false

namespace Sys2Proof.Machine

/-! ## Each command -/

/-- The parts that a command other than RESET may change. -/
def partsOf : Instr → List Part
  | .reset => []
  | .resetRelease => [.loader, .resetHeld]
  | .loadingComplete _ => [.loader, .mask, .link, .assembler, .dueOk, .queuesOk, .floorOk, .floorMembers]
  | .frameArrival _ _ => .link :: .tests :: .queuesOk :: arrivalParts
  | .mediumBusy | .mediumIdle => [.mediumBusy, .link]
  | .quietGapReached | .backoffSlotEnd | .turnaroundExpiry => [.link, .assembler]
  | .sendDone => [.framesSent, .link, .assembler]
  | .blockBoundary _ _ => [.outputs, .capture, .mix, .role, .entries, .downlink, .sendQueue,
      .assembler, .link, .roleOk, .sendQueueOk, .queuesOk]
  | .audioReadyFall => [.audioReady, .capture, .role, .bridge, .downlink, .view, .entries, .latches,
      .floor, .outcomes, .assembler, .link, .roleOk, .callOk]
  | .audioReadyRise => [.audioReady, .capture, .mix, .role, .bridge, .downlink, .view, .entries,
      .assembler, .link, .callOk]
  | .join => [.window, .departed, .entries, .assembler, .link]
  | .leave => [.window, .departed, .entries, .stations, .role, .bridge, .downlink, .view, .slots,
      .floor, .assembler, .link, .standings, .floorMembers]
  | .muteOn | .muteOff => [.ownMute]
  | .callOn => [.callFlag, .bridge, .downlink, .view, .callOk]
  | .callOff => [.callFlag, .bridge, .downlink, .view, .entries, .latches, .floor, .outcomes,
      .assembler, .link, .callOk]
  | .req _ => [.toggles, .slots, .latches, .merges, .reports, .floor, .outcomes, .assembler, .link,
      .termOk, .floorMembers]
  | .done _ => [.latches]
  | .status => [.flags, .outcomes, .reports, .reportsOk]
  | .unknownCommand _ _ => [.unknown, .reportsOk]
  | .reportSent => [.reports, .reportsOk]
  | .joinWindowExpiry => [.window, .assembler, .link]
  | .hailTimerExpiry | .presenceTimerExpiry => [.assembler, .link]
  | .presencePromotion => [.assembler]
  | .peerLossExpiry _ => [.role, .bridge, .downlink, .view, .entries, .latches, .floor, .outcomes,
      .assembler, .standings, .floorMembers]
  | .lostRemovalExpiry _ => [.role, .bridge, .downlink, .view, .entries, .stations, .latches, .floor,
      .outcomes, .assembler, .standings, .floorMembers]
  | .hailedExpiry _ => [.entries, .stations, .standings, .floorMembers]
  | .departedHoldExpiry _ => [.departed]
  | .settleExpiry => [.bridge, .downlink, .view, .mix, .slots, .outcomes, .latches, .merges,
      .reports, .floor, .entries, .assembler, .link, .callOk, .termOk, .floorMembers]
  | .requestTimeout _ => [.slots, .outcomes]
  | .floorGrantExpiry => [.floor]
  | .floorViewExpiry => [.view]

namespace State.Only

section
variable {s t : State}

theorem resetRelease (h : exec .resetRelease s = .next t) :
    s.Only [.loader, .resetHeld] t := by
  rcases resetRelease_cases h with rfl | ⟨_, rfl⟩
  · exact refl _ _
  · intro p hp
    have same := p.same_refl s
    cases p with
    | loader | resetHeld => exact absurd (by decide) hp
    | _ => exact same

theorem of_loader (s : State) (x : Loader) :
    s.Only [.dueOk, .queuesOk, .floorOk, .floorMembers, .loader] { s with sl := x } := by
  intro p hp
  have same := p.same_refl s
  cases p with
  | dueOk | queuesOk | floorOk | floorMembers | loader => exact absurd (by decide) hp
  | _ => exact same

theorem of_mask (s : State) (x : BitVec 12) :
    s.Only [.mask] { s with cl := { s.cl with mask := x } } := by
  intro p hp
  have same := p.same_refl s
  cases p with
  | mask => exact absurd (.head _) hp
  | _ => exact same

theorem startRunning (s : State) (img : Image) : s.Only [.loader, .mask, .link, .assembler, .dueOk,
    .queuesOk, .floorOk, .floorMembers] (s.startRunning img) := by
  refine trans ?_ (setFlagIf _ _ _).mono
  have due (u : State) : u.Only [.loader, .mask, .link, .assembler, .dueOk, .queuesOk, .floorOk,
      .floorMembers] { u with sa := { u.sa with
        scheduledDue := true, promotionTimer := some (s.now + presenceInterval) } } := (of_sa u).mono
  have marked (u : State) (m : Option Nat) :
      u.Only [.link] { u with lp := { u.lp with idleMark := m } } := (of_lp u).keeping id
  exact (due s).trans ((of_loader _ _).mono.trans ((of_mask _ _).mono.trans (marked _ _).mono))

theorem loadingComplete {img : Image} (h : exec (.loadingComplete img) s = .next t) :
    s.Only [.loader, .mask, .link, .assembler, .dueOk, .queuesOk, .floorOk, .floorMembers] t := by
  rcases loadingComplete_cases h with rfl | ⟨_, f, rfl⟩ | ⟨_, _, _, rfl⟩
  · exact refl _ _
  · exact (of_loader s _).mono.trans (setFlag _ _).mono
  · exact (startRunning s img).trans (linkReact _).mono

theorem frameArrival {bytes : List Byte} {good : Bool}
    (h : exec (.frameArrival bytes good) s = .next t) :
    s.Only (.link :: .tests :: .queuesOk :: arrivalParts) t := by
  rcases frameArrival_cases h with rfl | ⟨_, rfl⟩
  · exact refl _ _
  · exact (filterFrame s bytes good).trans (linkReact _).mono

theorem of_medium (s : State) (b : Bool) :
    s.Only [.mediumBusy] { s with ports := { s.ports with mediumBusy := b } } := by
  intro p hp
  have same := p.same_refl s
  cases p with
  | mediumBusy => exact absurd (.head _) hp
  | _ => exact same

theorem mediumBusy (h : exec .mediumBusy s = .next t) : s.Only [.mediumBusy, .link] t := by
  rcases mediumBusy_cases h with rfl | ⟨_, rfl⟩
  · exact (of_medium s true).mono
  · have lost (u : State) : u.Only [.link] { u with lp := { u.lp with slotEnd := none } } :=
      (of_lp u).keeping fun ⟨hcw, hcount, hdrawn, _, hrest⟩ =>
        ⟨hcw, hcount, hdrawn, fun hne => absurd rfl hne, hrest⟩
    exact (of_medium s true).mono.trans (lost _).mono

theorem mediumIdle (h : exec .mediumIdle s = .next t) : s.Only [.mediumBusy, .link] t := by
  rcases mediumIdle_cases h with rfl | ⟨_, rfl⟩
  · exact (of_medium s false).mono
  · have marked (u : State) : u.Only [.link] { u with lp := { u.lp with idleMark := some s.now } } :=
      (of_lp u).keeping id
    exact (of_medium s false).mono.trans (marked _).mono

/-- In DEFER a frame is asked for when the count is down (R8). -/
theorem ask_of_defer (s : State) (h : s.lp.access = .defer) : s.Only [.link, .assembler] s.ask :=
  (ask s).keeping (State.ask_linkOk (by simp [h]))

theorem quietGapReached (h : exec .quietGapReached s = .next t) :
    s.Only [.link, .assembler] t := by
  rcases quietGapReached_cases h with rfl | ⟨m, hdefer, ⟨_, rfl⟩ | ⟨hleft, rfl⟩⟩
  · exact refl _ _
  · exact (catchUp s _).mono.trans (ask_of_defer _ hdefer)
  · have started (u : State) (hu : u.lp = s.lp) (e : Nat) :
        u.Only [.link] { u with lp := { s.lp with slotEnd := some e } } := by
      rw [← hu]
      refine (of_lp u).keeping fun ⟨hcw, hcount, hdrawn, _, hrest⟩ =>
        ⟨hcw, hcount, hdrawn, fun _ => ⟨hu ▸ hdefer, fun hzero => hleft ?_⟩, hrest⟩
      rw [← hu]
      exact congrArg (·.getD 0) hzero
    exact trans (t := s.catchUp (m + quietGap)) (catchUp s _).mono (started (s.catchUp _) rfl _).mono

theorem slotEnded (s : State) (e : Nat) : s.Only [.linkOk, .link] (s.slotEnded e) :=
  (catchUp s e).mono.trans (of_lp _).mono

theorem backoffSlotEnd (h : exec .backoffSlotEnd s = .next t) :
    s.Only [.link, .assembler] t := by
  rcases backoffSlotEnd_cases h with rfl | ⟨e, hdefer, hslot, ⟨_, rfl⟩ | ⟨hleft, rfl⟩⟩
  · exact refl _ _
  · refine keeping (p := .linkOk) ((slotEnded s e).mono.trans (ask _).mono) fun hs => ?_
    have hnone := hs.sendDoneAt_eq_none (by simp [hdefer])
    rcases (s.slotEnded e).ask_cases with ⟨_, hask⟩ | ⟨k, _, hask⟩ <;> rw [hask]
    · exact hs.leave_defer nofun rfl rfl (congrArg Option.isSome hnone) rfl rfl rfl rfl rfl
    · exact hs.leave_defer nofun rfl rfl (congrArg Option.isSome hnone) rfl rfl rfl rfl rfl
  · refine keeping (p := .linkOk) (slotEnded s e).mono ?_
    rintro ⟨hcw, hcount, hdrawn, _, hrest⟩
    refine ⟨hcw, by simp [State.slotEnded, hdefer], decide_eq_true ?_,
      fun _ => ⟨hdefer, fun hzero => hleft (Option.some.inj hzero)⟩, hrest⟩
    rw [hdefer, decide_eq_true rfl, Option.isSome_iff_exists] at hcount
    obtain ⟨n, hn⟩ := hcount
    rw [hn] at hdrawn
    have hlt : n < s.lp.cw := of_decide_eq_true hdrawn
    change s.lp.backoff.getD 0 - 1 < s.lp.cw
    rw [hn]
    exact (Nat.sub_le _ _).trans_lt hlt

theorem endTurnaround (s : State) (h : s.lp.access = .turnaround) (d : Nat) :
    s.Only [.link, .assembler] (s.endTurnaround d) := by
  refine trans (t := { s with lp := { s.lp with
    access := .idle, sendDoneAt := none,
    idleMark := if s.ports.mediumBusy then s.lp.idleMark else some d } }) ?_ (linkReact _)
  refine keeping (p := .linkOk) (of_lp s).mono fun hs => ?_
  obtain ⟨hbackoff, hslot⟩ := hs.no_count (by simp [h])
  exact hs.leave_defer nofun hbackoff hslot rfl rfl rfl rfl rfl rfl

theorem frameSent (s : State) (h : s.lp.access = .sending) :
    s.Only [.framesSent, .link] s.frameSent := by
  intro p hp
  have same := p.same_refl s
  cases p with
  | framesSent | link => exact absurd (by decide) hp
  | linkOk =>
    intro hs
    obtain ⟨hbackoff, hslot⟩ := hs.no_count (by simp [h])
    obtain ⟨_, _, _, _, _, _, hcounts⟩ := hs
    refine ⟨.head _, congrArg Option.isSome hbackoff, ?_, fun hne => absurd hslot hne, rfl,
      min_le_left _ _, hcounts⟩
    change s.lp.backoff.all _ = true
    rw [hbackoff]
    rfl
  | _ => exact same

theorem sendDone (h : exec .sendDone s = .next t) : s.Only [.framesSent, .link, .assembler] t := by
  rcases sendDone_cases h with rfl | ⟨hsending, rfl | rfl⟩
  · exact refl _ _
  · exact (frameSent s hsending).mono
  · exact (frameSent s hsending).mono.trans (endTurnaround _ rfl _).mono

theorem turnaroundExpiry (h : exec .turnaroundExpiry s = .next t) :
    s.Only [.link, .assembler] t := by
  rcases turnaroundExpiry_cases h with rfl | ⟨d, hturn, rfl⟩
  · exact refl _ _
  · exact trans (t := s.catchUp (d + s.guardTicks)) (catchUp s _).mono (endTurnaround (s.catchUp _) hturn _)

/-- The send queue may have gained entries. -/
theorem of_sendQueue (s : State) (q : List SendEntry) (n : Nat) :
    s.Only [.sendQueueOk, .sendQueue, .assembler]
      { s with sa := { s.sa with queue := q, sendDrops := n } } := by
  intro p hp
  have same := p.same_refl s
  cases p with
  | sendQueueOk | sendQueue | assembler => exact absurd (by decide) hp
  | _ => exact same

theorem countDrops (s : State) (n : Nat) :
    s.Only [.sendQueueOk, .sendQueue, .assembler] (s.countDrops n) :=
  (of_sendQueue s _ _).trans (setFlagIf _ _ _).mono

theorem joinQueue (s : State) (e : SendEntry) :
    s.Only [.sendQueueOk, .sendQueue, .assembler] (s.joinQueue e) :=
  (countDrops s _).trans (of_sendQueue _ _ _)

theorem joinEntries (s : State) (voice : Option SendEntry) (call : Block) :
    s.Only [.sendQueueOk, .sendQueue, .assembler] (s.joinEntries voice call) := by
  have called (u : State) : u.Only [.sendQueueOk, .sendQueue, .assembler]
      (if u.bu.state = .active then u.joinQueue (u.callEntry call) else u) := by
    split
    · exact joinQueue u _
    · exact refl _ u
  have aged : s.Only [.sendQueueOk, .sendQueue, .assembler] s.ageQueue :=
    (countDrops s _).trans (of_sendQueue _ _ _)
  cases voice with
  | none => exact aged.trans (called _)
  | some e => exact (aged.trans (joinQueue _ e)).trans (called _)

theorem capture (s : State) (mic : Block) :
    s.Only [.roleOk, .sendQueueOk, .capture] (s.capture mic).1 := by
  rw [State.capture_eq]
  split <;> exact of_cu s _

theorem of_outputs (s : State) (x y : Block) :
    s.Only [.outputs] { s with ports := { s.ports with earOut := x, callOut := y } } := by
  intro p hp
  have same := p.same_refl s
  cases p with
  | outputs => exact absurd (by decide) hp
  | _ => exact same

theorem playAndMix (s : State) (mic call : Block) (sent : Option Block) :
    s.Only [.queuesOk, .mix, .outputs, .downlink, .entries] (s.playAndMix mic call sent) := by
  rw [State.playAndMix_eq s mic call sent rfl]
  have played : s.Only [.queuesOk, .entries] { s with ru := { s.ru with
      peers := playPeers s.cfg.depth s.ru.peers } } :=
    keeping (p := .termOk) (mono (of_quiet_map s fun _ => rfl)) (termOk_of_map s fun _ h => h)
  exact played.mono.trans ((of_me _ _).mono.trans ((of_outputs _ _ _).mono.trans
    (of_rq _ _).mono))

theorem blockBoundary {mic call : Block} (h : exec (.blockBoundary mic call) s = .next t) :
    s.Only [.outputs, .capture, .mix, .role, .entries, .downlink, .sendQueue,
      .assembler, .link, .roleOk, .sendQueueOk, .queuesOk] t := by
  rcases blockBoundary_cases h with rfl | ⟨_, ⟨_, rfl⟩ | ⟨_, rfl⟩⟩
  · exact refl _ _
  · exact (of_outputs s _ _).mono
  · exact (capture s mic).mono.trans ((joinEntries _ _ call).mono.trans ((stepDownEffect _).mono.trans
      ((playAndMix _ _ _ _).mono.trans (linkReact _).mono)))

theorem of_ready (s : State) (b : Bool) :
    s.Only [.roleOk, .callOk, .audioReady] { s with ports := { s.ports with audioReady := b } } := by
  intro p hp
  have same := p.same_refl s
  cases p with
  | roleOk | callOk | audioReady => exact absurd (by decide) hp
  | _ => exact same

theorem audioReadyFall (h : exec .audioReadyFall s = .next t) :
    s.Only [.audioReady, .capture, .role, .bridge, .downlink, .view, .entries, .latches, .floor,
      .outcomes, .assembler, .link, .roleOk, .callOk] t := by
  have isolated : s.Only [.audioReady, .role, .roleOk, .callOk] s.isolate :=
    (of_ready s false).mono.trans (of_wl _).mono
  rcases audioReadyFall_cases h with rfl | ⟨_, rfl⟩ | ⟨_, rfl⟩
  · exact refl _ _
  · exact isolated.mono
  · have cut : s.isolate.Only [.roleOk, .capture] s.isolate.cutSpurt :=
      keeping (p := .sendQueueOk) (of_cu _ _).mono id
    exact isolated.mono.trans (cut.mono.trans ((enterOff _).mono.trans
      ((evaluateFollowed _).mono.trans (linkReact _).mono)))

theorem flushAll (s : State) : s.Only [.entries, .downlink] s.flushAll := by
  have flushed : s.Only [.entries] { s with ru := { s.ru with
      peers := s.ru.peers.map Peer.flushQueue } } :=
    keeping (p := .termOk) (keeping (p := .queuesOk) (of_quiet_map s fun _ => rfl)
      (queuesOk_of_map s fun p hp => ?_)) (termOk_of_map s fun _ h => h)
  · exact flushed.mono.trans (flushDownlink _).mono
  · cases hq : p.queue with
    | none =>
      rw [Peer.QueueOk, Peer.flushQueue, hq]
      rfl
    | some q =>
      rw [Peer.QueueOk, hq] at hp
      have hok : q.Ok := of_decide_eq_true hp
      rw [Peer.QueueOk, Peer.flushQueue, hq]
      exact decide_eq_true hok.flush

theorem audioReadyRise (h : exec .audioReadyRise s = .next t) :
    s.Only [.audioReady, .capture, .mix, .role, .bridge, .downlink, .view, .entries, .assembler,
      .link, .callOk] t := by
  have ready : s.Only [.audioReady, .callOk] { s with ports := { s.ports with audioReady := true } } :=
    keeping (p := .roleOk) (of_ready s true).mono fun ⟨_, hstep⟩ => ⟨nofun, hstep⟩
  have rejoined : s.Only [.audioReady, .role, .callOk] s.rejoin :=
    ready.mono.trans (evaluateRole _).mono
  rcases audioReadyRise_cases h with rfl | ⟨_, ⟨_, rfl⟩ | ⟨_, rfl⟩⟩
  · exact refl _ _
  · exact rejoined.mono
  · have rested (u : State) : u.Only [.mix] u.restMix := of_me u _
    have fresh (u : State) : u.Only [.capture] u.freshScore :=
      keeping (p := .sendQueueOk) (keeping (p := .roleOk) (of_cu u _) id) id
    have claims (u : State) : u.Only [.callOk, .bridge] u.claimAtRise := by
      unfold State.claimAtRise
      split
      · next hoff =>
        have hstate : u.bu.state = .off := of_decide_eq_true (Bool.and_eq_true_iff.1 hoff).2
        exact enterClaiming_of_inactive u (by simp [hstate])
      · exact refl _ u
    exact rejoined.mono.trans ((flushAll _).mono.trans ((rested _).mono.trans ((fresh _).mono.trans
      ((claims _).mono.trans ((evaluateFollowed _).mono.trans (linkReact _).mono)))))

theorem hailOpen (s : State) : s.Only [.dueOk, .assembler] s.hailOpen := of_sa s

theorem startWindow (s : State) : s.Only [.dueOk, .window] s.startWindow := of_window s _

theorem freshWindow (s : State) : s.Only [.departed, .entries] s.freshWindow := by
  have cleared : s.Only [.entries] { s with ru := { s.ru with
      peers := s.ru.peers.map Peer.clearMark } } :=
    keeping (p := .termOk) (keeping (p := .queuesOk) (of_quiet_map s fun _ => rfl)
      (queuesOk_of_map s fun _ hp => hp)) (termOk_of_map s fun _ h => h)
  exact cleared.mono.trans (of_departed _ _).mono

theorem join (h : exec .join s = .next t) :
    s.Only [.window, .departed, .entries, .assembler, .link] t := by
  rcases join_cases h with rfl | ⟨_, ⟨hopen, rfl⟩ | ⟨hclosed, rfl⟩⟩
  · exact refl _ _
  · refine keeping (p := .dueOk) (startWindow s).mono fun ⟨hhail, hrest⟩ => ⟨?_, hrest⟩
    rw [Option.isSome_iff_ne_none.2 hopen] at hhail
    exact hhail
  · refine trans (t := s.startWindow.freshWindow.hailOpen) ?_ (linkReact _).mono
    refine keeping (p := .dueOk) ((startWindow s).mono.trans ((freshWindow _).mono.trans
      (hailOpen _).mono)) ?_
    rintro ⟨hhail, htimer, hrest⟩
    have hnone : s.sa.hailTimer = none := by
      cases hdue : s.sa.hailDue with
      | true => exact htimer hdue
      | false =>
        rw [hclosed, hdue] at hhail
        exact Option.not_isSome_iff_eq_none.1 (by simpa using hhail)
    refine ⟨?_, fun _ => hnone, hrest⟩
    change (true != s.sa.hailTimer.isSome) = true
    rw [hnone]
    rfl

/-- Everything forgotten, the settings and timers of the group with it (R41, R75). -/
theorem forget (s : State) : s.Only [.window, .departed, .entries, .stations, .standings,
    .floorMembers, .downlink, .assembler] s.leaveRoster.leaveSend.flushDownlink := by
  have emptied (u : State) : u.Only [.standings, .floorMembers, .entries, .stations]
      { u with ru := { u.ru with peers := [] } } := of_fewer_peers u (List.nil_subset _)
  have closed (u : State) : u.Only [.departed, .dueOk, .window]
      { u with ru := { u.ru with departed := [], window := none } } :=
    (of_departed u []).mono.trans (of_window _ none).mono
  have unsent (u : State) : u.Only [.dueOk, .assembler] { u with sa := { u.sa with
      leaveDue := true, queue := [], hailDue := false, hailTimer := none } } :=
    of_sa u (List.nil_sublist _)
  refine keeping (p := .dueOk) ((emptied s).mono.trans ((closed _).mono.trans ((unsent _).mono.trans
    (flushDownlink _).mono))) ?_
  rintro ⟨_, _, hpresence, hpromotion, hscheduled⟩
  exact ⟨rfl, nofun, hpresence, hpromotion, hscheduled⟩

theorem deserted (s : State) : s.Only [.window, .departed, .entries, .stations, .role, .bridge,
    .downlink, .assembler, .standings, .floorMembers] s.deserted := by
  have evaluated : s.deserted = s.leaveRoster.leaveSend.flushDownlink.evaluateRole.evaluateState := by
    rw [State.evaluateState_of_no_peers (by simp; rfl)]
    rfl
  have chain := ((forget s).mono (l' := [.window, .departed, .entries, .stations, .standings,
    .floorMembers, .downlink, .assembler, .role, .bridge, .latches, .floor, .outcomes])).trans
    ((evaluateRole _).mono.trans (evaluateState _).mono)
  rw [← evaluated] at chain
  refine both chain (l' := [.window, .departed, .entries, .stations, .role, .bridge,
    .downlink, .assembler, .dueOk, .standings, .queuesOk, .termOk, .floorMembers, .roleOk,
    .sendQueueOk, .callOk]) ?_
  rw [s.deserted_eq]
  have left : s.Only [.dueOk, .assembler] { s with sa := { s.sa with
      leaveDue := true, queue := [], hailDue := false, hailTimer := none } } :=
    of_sa s (List.nil_sublist _)
  exact left.mono.trans ((of_table _ _).mono.trans ((of_departed _ _).mono.trans
    ((of_window _ _).mono.trans ((of_rq _ _).mono.trans ((of_wl _).mono.trans (of_bu _).mono)))))

theorem leave (h : exec .leave s = .next t) :
    s.Only [.window, .departed, .entries, .stations, .role, .bridge, .downlink, .view, .slots,
      .floor, .assembler, .link, .standings, .floorMembers] t := by
  rcases leave_cases h with rfl | ⟨_, rfl⟩
  · exact refl _ _
  · exact (deserted s).mono.trans ((evaluateFollowed _).mono.trans ((leaveRequests _).mono.trans
      (linkReact _).mono))

theorem withOwnMute (s : State) (b : Bool) : s.Only [.ownMute] (s.withOwnMute b) := by
  intro p hp
  have same := p.same_refl s
  cases p with
  | ownMute => exact absurd (.head _) hp
  | _ => exact same

theorem muteOn (h : exec .muteOn s = .next t) : s.Only [.ownMute] t := by
  rcases muteOn_cases h with rfl | ⟨_, rfl⟩
  · exact refl _ _
  · exact withOwnMute s true

theorem muteOff (h : exec .muteOff s = .next t) : s.Only [.ownMute] t := by
  rcases muteOff_cases h with rfl | ⟨_, rfl⟩
  · exact refl _ _
  · exact withOwnMute s false

theorem withCallFlag (s : State) (b : Bool) :
    s.Only [.callOk, .callFlag, .bridge] (s.withCallFlag b) := by
  intro p hp
  have same := p.same_refl s
  cases p with
  | callOk | callFlag | bridge => exact absurd (by decide) hp
  | _ => exact same

theorem callOn (h : exec .callOn s = .next t) :
    s.Only [.callFlag, .bridge, .downlink, .view, .callOk] t := by
  rcases callOn_cases h with rfl | ⟨_, ⟨hoff, _, rfl⟩ | ⟨_, rfl⟩⟩
  · exact refl _ _
  · have hinactive : (s.withCallFlag true).bu.state ≠ .active := by simp [State.withCallFlag, hoff]
    exact (withCallFlag s true).mono.trans ((enterClaiming_of_inactive _ hinactive).mono.trans
      (evaluateFollowed _).mono)
  · exact (withCallFlag s true).mono.trans (evaluateFollowed _).mono

theorem callOff (h : exec .callOff s = .next t) :
    s.Only [.callFlag, .bridge, .downlink, .view, .entries, .latches, .floor, .outcomes,
      .assembler, .link, .callOk] t := by
  rcases callOff_cases h with rfl | ⟨_, rfl⟩
  · exact refl _ _
  · exact (withCallFlag s false).mono.trans ((enterOff _).mono.trans
      ((evaluateFollowed _).mono.trans (linkReact _).mono))

theorem settleExpiry (h : exec .settleExpiry s = .next t) :
    s.Only [.bridge, .downlink, .view, .mix, .slots, .outcomes, .latches, .merges, .reports, .floor,
      .entries, .assembler, .link, .callOk, .termOk, .floorMembers] t := by
  rcases settleExpiry_cases h with rfl | ⟨e, hclaiming, hends⟩
  · exact refl _ _
  have hinactive : (s.catchUp e).bu.state ≠ .active := by simp [hclaiming]
  rcases hends with ⟨_, rfl⟩ | ⟨_, rfl⟩
  · exact (catchUp s e).mono.trans ((enterYielded_of_inactive _ hinactive).mono.trans
      ((evaluateFollowed _).mono.trans (linkReact _).mono))
  · exact (catchUp s e).mono.trans ((enterActive _ hinactive).mono.trans
      ((evaluateFollowed _).mono.trans (linkReact _).mono))

theorem requestHere (s : State) (k : ReqKind) :
    s.Only [.slots, .outcomes, .latches, .merges, .reports, .floor, .assembler, .termOk,
      .floorMembers] (s.requestHere k) :=
  (clearLate s k).mono.trans ((record _ _ _).mono.trans (act _ _ _).mono)

theorem requestAfar (s : State) (k : ReqKind) :
    s.Only [.toggles, .slots, .outcomes, .termOk] (s.requestAfar k) := by
  unfold State.requestAfar
  dsimp only
  split
  · exact (record s _ _).mono
  · intro p hp
    have same := p.same_refl s
    cases p with
    | toggles | slots | termOk => exact absurd (by decide) hp
    | _ => exact same

theorem req {k : ReqKind} (h : exec (.req k) s = .next t) :
    s.Only [.toggles, .slots, .latches, .merges, .reports, .floor, .outcomes, .assembler, .link,
      .termOk, .floorMembers] t := by
  rcases req_cases h with rfl | ⟨_, ⟨_, rfl⟩ | ⟨_, rfl⟩⟩
  · exact refl _ _
  · exact (requestHere s k).mono.trans (linkReact _).mono
  · exact (requestAfar s k).mono.trans (linkReact _).mono

theorem done {k : LatchKind} (h : exec (.done k) s = .next t) : s.Only [.latches] t := by
  rcases done_cases h with rfl | ⟨_, rfl⟩
  · exact refl _ _
  · exact clearLatch s k

theorem formPair (s : State) : s.Only [.flags, .outcomes, .reports, .reportsOk] s.formPair := by
  refine trans (t := (s.pushReport s.statusReport).pushReport s.rosterReport)
    ((pushReport s _).mono.trans (pushReport _ _).mono) ?_
  intro p hp
  have same := p.same_refl ((s.pushReport s.statusReport).pushReport s.rosterReport)
  cases p with
  | flags => exact absurd (.head _) hp
  | outcomes => exact absurd (.tail _ (.head _)) hp
  | _ => exact same

theorem status (h : exec .status s = .next t) :
    s.Only [.flags, .outcomes, .reports, .reportsOk] t := by
  rcases status_cases h with rfl | ⟨_, rfl⟩
  · exact refl _ _
  · exact formPair s

theorem unknownCommand {b : Byte} {stop : Bool} (h : exec (.unknownCommand b stop) s = .next t) :
    s.Only [.unknown, .reportsOk] t := by
  rcases unknownCommand_cases h with rfl | ⟨_, rfl⟩
  · exact refl _ _
  · intro p hp
    have same := p.same_refl s
    cases p with
    | unknown | reportsOk => exact absurd (by decide) hp
    | _ => exact same

theorem reportSent (h : exec .reportSent s = .next t) : s.Only [.reports, .reportsOk] t := by
  rcases reportSent_cases h with rfl | ⟨_, _, rfl⟩
  · exact refl _ _
  · exact of_reports s _ _

theorem joinWindowExpiry (h : exec .joinWindowExpiry s = .next t) :
    s.Only [.window, .assembler, .link] t := by
  rcases joinWindowExpiry_cases h with rfl | ⟨e, _, rfl⟩
  · exact refl _ _
  · have closed (u : State) : u.Only [.window, .assembler] u.closeWindow :=
      keeping (p := .dueOk) ((of_window u none).mono.trans (of_sa _).mono)
        fun ⟨_, _, hrest⟩ => ⟨rfl, nofun, hrest⟩
    exact (catchUp s e).mono.trans ((closed _).mono.trans (linkReact _).mono)

theorem hailTimerExpiry (h : exec .hailTimerExpiry s = .next t) : s.Only [.assembler, .link] t := by
  rcases hailTimerExpiry_cases h with rfl | ⟨e, htimer, rfl⟩
  · exact refl _ _
  · refine trans (t := s.hailAgain e) (mono (l := [.assembler]) ?_) (linkReact _).mono
    refine keeping (p := .dueOk) ((catchUp s e).mono.trans (of_sa _)) fun ⟨hhail, hnone, hrest⟩ =>
      ⟨?_, fun _ => rfl, hrest⟩
    have hnot : s.sa.hailDue = false := by
      by_contra hdue
      have := htimer.symm.trans (hnone (by simpa using hdue))
      cases this
    have hopen : s.ru.window.isSome = true := by
      rw [← hhail, hnot, htimer]
      rfl
    change ((s.sa.hailDue || s.ru.window.isSome) != false) = s.ru.window.isSome
    rw [hopen, Bool.or_true]
    rfl

theorem presenceTimerExpiry (h : exec .presenceTimerExpiry s = .next t) :
    s.Only [.assembler, .link] t := by
  rcases presenceTimerExpiry_cases h with rfl | ⟨e, _, rfl⟩
  · exact refl _ _
  · refine trans (t := s.presenceAgain e) (mono (l := [.assembler]) ?_) (linkReact _).mono
    exact keeping (p := .dueOk) ((catchUp s e).mono.trans (of_sa _))
      fun ⟨hhail, htimer, _⟩ => ⟨hhail, htimer, fun _ => .inr (.inl rfl), rfl, fun _ => rfl⟩

theorem presencePromotion (h : exec .presencePromotion s = .next t) : s.Only [.assembler] t := by
  rcases presencePromotion_cases h with rfl | ⟨e, _, rfl⟩
  · exact refl _ _
  · exact keeping (p := .dueOk) ((catchUp s e).mono.trans (of_sa _))
      fun ⟨hhail, htimer, _⟩ => ⟨hhail, htimer, fun _ => .inr (.inr rfl), rfl, nofun⟩

theorem peerLost (s : State) (n e : Nat) :
    s.Only [.standings, .floorMembers, .entries] (s.peerLost n e) := by
  refine trans (t := (s.catchUp e).mapPeer n _) ?_ (setFlag _ _).mono
  exact (catchUp s e).mono.trans (mapPeer _ fun _ => rfl)

theorem peerLossExpiry {n : Nat} (h : exec (.peerLossExpiry n) s = .next t) :
    s.Only [.role, .bridge, .downlink, .view, .entries, .latches, .floor, .outcomes, .assembler,
      .standings, .floorMembers] t := by
  rcases peerLossExpiry_cases h with rfl | ⟨p, e, _, _, rfl⟩
  · exact refl _ _
  · exact (peerLost s n e).mono.trans (notice _ _ _).mono

theorem lostRemovalExpiry {n : Nat} (h : exec (.lostRemovalExpiry n) s = .next t) :
    s.Only [.role, .bridge, .downlink, .view, .entries, .stations, .latches, .floor, .outcomes,
      .assembler, .standings, .floorMembers] t := by
  rcases lostRemovalExpiry_cases h with rfl | ⟨p, e, _, _, rfl⟩
  · exact refl _ _
  · exact (catchUp s e).mono.trans (removePeer _ p).mono

theorem hailedExpiry {n : Nat} (h : exec (.hailedExpiry n) s = .next t) :
    s.Only [.entries, .stations, .standings, .floorMembers] t := by
  rcases hailedExpiry_cases h with rfl | ⟨p, e, _, hhailed, rfl⟩
  · exact refl _ _
  · rw [State.removePeer_of_hailed hhailed]
    exact (catchUp s e).mono.trans (of_fewer_peers _ List.filter_sublist.subset).mono

theorem departedHoldExpiry {n : Nat} (h : exec (.departedHoldExpiry n) s = .next t) :
    s.Only [.departed] t := by
  rcases departedHoldExpiry_cases h with rfl | ⟨e, rfl⟩
  · exact refl _ _
  · exact (catchUp s e).mono.trans (undepart _ n)

theorem requestTimeout {k : ReqKind} (h : exec (.requestTimeout k) s = .next t) :
    s.Only [.slots, .outcomes] t := by
  have timedOut (u : State) (hu : u.cq = s.cq) : u.Only [.slots]
      (u.setSlot k { s.cq.slots.get k with timer := none, late := true }) := by
    rw [← hu]
    exact setSlot u rfl fun hpending => by cases hpending
  rcases requestTimeout_cases h with rfl | ⟨e, rfl⟩
  · exact refl _ _
  · exact (catchUp s e).mono.trans ((timedOut (s.catchUp e) rfl).mono.trans (record _ _ _).mono)

theorem floorGrantExpiry (h : exec .floorGrantExpiry s = .next t) : s.Only [.floor] t := by
  rcases floorGrantExpiry_cases h with rfl | ⟨e, _, rfl⟩
  · exact refl _ _
  · exact (catchUp s e).mono.trans (endGrant _)

theorem floorViewExpiry (h : exec .floorViewExpiry s = .next t) : s.Only [.view] t := by
  rcases floorViewExpiry_cases h with rfl | ⟨e, rfl⟩
  · exact refl _ _
  · exact (catchUp s e).mono.trans (of_view _ _)

end

end State.Only

/-- A command other than RESET changes only its own parts. -/
theorem exec_only {c : Instr} {s t : State} (h : exec c s = .next t) (hc : c ≠ .reset) :
    s.Only (partsOf c) t := by
  cases c with
  | reset => exact absurd rfl hc
  | resetRelease => exact State.Only.resetRelease h
  | loadingComplete img => exact State.Only.loadingComplete h
  | frameArrival bytes good => exact State.Only.frameArrival h
  | mediumBusy => exact State.Only.mediumBusy h
  | mediumIdle => exact State.Only.mediumIdle h
  | quietGapReached => exact State.Only.quietGapReached h
  | backoffSlotEnd => exact State.Only.backoffSlotEnd h
  | sendDone => exact State.Only.sendDone h
  | turnaroundExpiry => exact State.Only.turnaroundExpiry h
  | blockBoundary mic call => exact State.Only.blockBoundary h
  | audioReadyFall => exact State.Only.audioReadyFall h
  | audioReadyRise => exact State.Only.audioReadyRise h
  | join => exact State.Only.join h
  | leave => exact State.Only.leave h
  | muteOn => exact State.Only.muteOn h
  | muteOff => exact State.Only.muteOff h
  | callOn => exact State.Only.callOn h
  | callOff => exact State.Only.callOff h
  | req k => exact State.Only.req h
  | done k => exact State.Only.done h
  | status => exact State.Only.status h
  | unknownCommand b stop => exact State.Only.unknownCommand h
  | reportSent => exact State.Only.reportSent h
  | joinWindowExpiry => exact State.Only.joinWindowExpiry h
  | hailTimerExpiry => exact State.Only.hailTimerExpiry h
  | presenceTimerExpiry => exact State.Only.presenceTimerExpiry h
  | presencePromotion => exact State.Only.presencePromotion h
  | peerLossExpiry n => exact State.Only.peerLossExpiry h
  | lostRemovalExpiry n => exact State.Only.lostRemovalExpiry h
  | hailedExpiry n => exact State.Only.hailedExpiry h
  | departedHoldExpiry n => exact State.Only.departedHoldExpiry h
  | settleExpiry => exact State.Only.settleExpiry h
  | requestTimeout k => exact State.Only.requestTimeout h
  | floorGrantExpiry => exact State.Only.floorGrantExpiry h
  | floorViewExpiry => exact State.Only.floorViewExpiry h

theorem exec_kept {c : Instr} {s t : State} (h : exec c s = .next t) (hc : c ≠ .reset) {p : Part}
    (hp : (partsOf c).contains p = false) : p.same s t :=
  exec_only h hc p fun hmem => by rw [List.contains_iff_mem.2 hmem] at hp; cases hp

/-! ## Each part -/

section
variable {c : Instr} {s t : State} (h : exec c s = .next t) (hc : c ≠ .reset)
include h hc

theorem kept_loader (hResetRelease : c ≠ .resetRelease) (hLoadingComplete : ∀ img, c ≠
    .loadingComplete img) :
    Part.loader.same s t := by
  refine exec_kept h hc ?_
  cases c with
  | resetRelease => exact absurd rfl hResetRelease
  | loadingComplete img => exact absurd rfl (hLoadingComplete img)
  | _ => rfl

theorem kept_resetHeld (hResetRelease : c ≠ .resetRelease) :
    Part.resetHeld.same s t := by
  refine exec_kept h hc ?_
  cases c with
  | resetRelease => exact absurd rfl hResetRelease
  | _ => rfl

theorem kept_audioReady (hAudioReadyFall : c ≠ .audioReadyFall) (hAudioReadyRise : c ≠
    .audioReadyRise) :
    Part.audioReady.same s t := by
  refine exec_kept h hc ?_
  cases c with
  | audioReadyFall => exact absurd rfl hAudioReadyFall
  | audioReadyRise => exact absurd rfl hAudioReadyRise
  | _ => rfl

theorem kept_mediumBusy (hMediumBusy : c ≠ .mediumBusy) (hMediumIdle : c ≠ .mediumIdle) :
    Part.mediumBusy.same s t := by
  refine exec_kept h hc ?_
  cases c with
  | mediumBusy => exact absurd rfl hMediumBusy
  | mediumIdle => exact absurd rfl hMediumIdle
  | _ => rfl

theorem kept_outputs (hBlockBoundary : ∀ mic call, c ≠ .blockBoundary mic call) :
    Part.outputs.same s t := by
  refine exec_kept h hc ?_
  cases c with
  | blockBoundary mic call => exact absurd rfl (hBlockBoundary mic call)
  | _ => rfl

theorem kept_capture (hBlockBoundary : ∀ mic call, c ≠ .blockBoundary mic call) (hAudioReadyFall
    : c ≠ .audioReadyFall) (hAudioReadyRise : c ≠ .audioReadyRise) :
    Part.capture.same s t := by
  refine exec_kept h hc ?_
  cases c with
  | blockBoundary mic call => exact absurd rfl (hBlockBoundary mic call)
  | audioReadyFall => exact absurd rfl hAudioReadyFall
  | audioReadyRise => exact absurd rfl hAudioReadyRise
  | _ => rfl

theorem kept_mix (hBlockBoundary : ∀ mic call, c ≠ .blockBoundary mic call) (hAudioReadyRise : c
    ≠ .audioReadyRise) (hSettleExpiry : c ≠ .settleExpiry) :
    Part.mix.same s t := by
  refine exec_kept h hc ?_
  cases c with
  | blockBoundary mic call => exact absurd rfl (hBlockBoundary mic call)
  | audioReadyRise => exact absurd rfl hAudioReadyRise
  | settleExpiry => exact absurd rfl hSettleExpiry
  | _ => rfl

theorem kept_ownMute (hMuteOn : c ≠ .muteOn) (hMuteOff : c ≠ .muteOff) :
    Part.ownMute.same s t := by
  refine exec_kept h hc ?_
  cases c with
  | muteOn => exact absurd rfl hMuteOn
  | muteOff => exact absurd rfl hMuteOff
  | _ => rfl

theorem kept_callFlag (hCallOn : c ≠ .callOn) (hCallOff : c ≠ .callOff) :
    Part.callFlag.same s t := by
  refine exec_kept h hc ?_
  cases c with
  | callOn => exact absurd rfl hCallOn
  | callOff => exact absurd rfl hCallOff
  | _ => rfl

theorem kept_window (hJoin : c ≠ .join) (hLeave : c ≠ .leave) (hJoinWindowExpiry : c ≠
    .joinWindowExpiry) :
    Part.window.same s t := by
  refine exec_kept h hc ?_
  cases c with
  | join => exact absurd rfl hJoin
  | leave => exact absurd rfl hLeave
  | joinWindowExpiry => exact absurd rfl hJoinWindowExpiry
  | _ => rfl

theorem kept_mask (hLoadingComplete : ∀ img, c ≠ .loadingComplete img) :
    Part.mask.same s t := by
  refine exec_kept h hc ?_
  cases c with
  | loadingComplete img => exact absurd rfl (hLoadingComplete img)
  | _ => rfl

theorem kept_unknown (hUnknownCommand : ∀ b stop, c ≠ .unknownCommand b stop) :
    Part.unknown.same s t := by
  refine exec_kept h hc ?_
  cases c with
  | unknownCommand b stop => exact absurd rfl (hUnknownCommand b stop)
  | _ => rfl

theorem kept_toggles (hReq : ∀ k, c ≠ .req k) :
    Part.toggles.same s t := by
  refine exec_kept h hc ?_
  cases c with
  | req k => exact absurd rfl (hReq k)
  | _ => rfl

theorem kept_framesSent (hSendDone : c ≠ .sendDone) :
    Part.framesSent.same s t := by
  refine exec_kept h hc ?_
  cases c with
  | sendDone => exact absurd rfl hSendDone
  | _ => rfl

theorem kept_tests (hFrameArrival : ∀ bytes good, c ≠ .frameArrival bytes good) :
    Part.tests.same s t := by
  refine exec_kept h hc ?_
  cases c with
  | frameArrival bytes good => exact absurd rfl (hFrameArrival bytes good)
  | _ => rfl

theorem kept_turnedAway (hFrameArrival : ∀ bytes good, c ≠ .frameArrival bytes good) :
    Part.turnedAway.same s t := by
  refine exec_kept h hc ?_
  cases c with
  | frameArrival bytes good => exact absurd rfl (hFrameArrival bytes good)
  | _ => rfl

theorem kept_flags (hStatus : c ≠ .status) :
    Part.flags.same s t := by
  refine exec_kept h hc ?_
  cases c with
  | status => exact absurd rfl hStatus
  | _ => rfl

theorem kept_role
    (hnot : ¬((∃ b v, c = .frameArrival b v) ∨ (∃ m d, c = .blockBoundary m d) ∨ (∃ n, c =
      .peerLossExpiry n ∨ c = .lostRemovalExpiry n) ∨ (c = .audioReadyFall ∨ c = .audioReadyRise)
      ∨ c = .leave)) :
    Part.role.same s t := by
  refine exec_kept h hc ?_
  cases c with
  | frameArrival _ _ | blockBoundary _ _ | leave | peerLossExpiry _ | lostRemovalExpiry _
  | audioReadyFall | audioReadyRise => simp at hnot
  | _ => rfl

theorem kept_bridge
    (hnot : ¬((∃ b v, c = .frameArrival b v) ∨ (∃ n, c = .peerLossExpiry n ∨ c =
      .lostRemovalExpiry n) ∨ (c = .audioReadyFall ∨ c = .audioReadyRise) ∨ (c = .callOn ∨ c =
      .callOff ∨ c = .settleExpiry) ∨ c = .leave)) :
    Part.bridge.same s t := by
  refine exec_kept h hc ?_
  cases c with
  | frameArrival _ _ | leave | peerLossExpiry _ | lostRemovalExpiry _ | audioReadyFall
  | audioReadyRise | callOn | callOff | settleExpiry => simp at hnot
  | _ => rfl

theorem kept_departed
    (hnot : ¬((∃ b v, c = .frameArrival b v) ∨ c = .join ∨ c = .leave ∨ ∃ n, c =
      .departedHoldExpiry n)) :
    Part.departed.same s t := by
  refine exec_kept h hc ?_
  cases c with
  | frameArrival _ _ | join | leave | departedHoldExpiry _ => simp at hnot
  | _ => rfl

theorem kept_stations
    (hnot : ¬((∃ b v, c = .frameArrival b v) ∨ c = .leave ∨ ∃ n, c = .lostRemovalExpiry n ∨ c
      = .hailedExpiry n)) :
    Part.stations.same s t := by
  refine exec_kept h hc ?_
  cases c with
  | frameArrival _ _ | leave | lostRemovalExpiry _ | hailedExpiry _ => simp at hnot
  | _ => rfl

theorem kept_slots
    (hnot : ¬((∃ b v, c = .frameArrival b v) ∨ (∃ k, c = .req k) ∨ c = .settleExpiry ∨ c =
      .leave ∨ ∃ k, c = .requestTimeout k)) :
    Part.slots.same s t := by
  refine exec_kept h hc ?_
  cases c with
  | frameArrival _ _ | req _ | settleExpiry | leave | requestTimeout _ => simp at hnot
  | _ => rfl

theorem kept_latches
    (hnot : ¬((∃ b v, c = .frameArrival b v) ∨ (∃ k, c = .req k) ∨ c = .settleExpiry ∨ ((∃ n,
      c = .peerLossExpiry n ∨ c = .lostRemovalExpiry n) ∨ c = .audioReadyFall ∨ c = .callOff) ∨ ∃
      k, c = .done k)) :
    Part.latches.same s t := by
  refine exec_kept h hc ?_
  cases c with
  | frameArrival _ _ | req _ | settleExpiry | done _ | peerLossExpiry _ | lostRemovalExpiry _
  | audioReadyFall | callOff => simp at hnot
  | _ => rfl

theorem kept_merges
    (hnot : ¬((∃ b v, c = .frameArrival b v) ∨ (∃ k, c = .req k) ∨ c = .settleExpiry)) :
    Part.merges.same s t := by
  refine exec_kept h hc ?_
  cases c with
  | frameArrival _ _ | req _ | settleExpiry => simp at hnot
  | _ => rfl

theorem kept_floor
    (hnot : ¬((∃ b v, c = .frameArrival b v) ∨ (∃ k, c = .req k) ∨ c = .settleExpiry ∨ ((∃ n,
      c = .peerLossExpiry n ∨ c = .lostRemovalExpiry n) ∨ c = .audioReadyFall ∨ c = .callOff) ∨ c
      = .leave ∨ c = .floorGrantExpiry)) :
    Part.floor.same s t := by
  refine exec_kept h hc ?_
  cases c with
  | frameArrival _ _ | req _ | settleExpiry | leave | floorGrantExpiry | peerLossExpiry _
  | lostRemovalExpiry _ | audioReadyFall | callOff => simp at hnot
  | _ => rfl

theorem kept_view
    (hnot : ¬((∃ b v, c = .frameArrival b v) ∨ (∃ n, c = .peerLossExpiry n ∨ c =
      .lostRemovalExpiry n) ∨ (c = .audioReadyFall ∨ c = .audioReadyRise) ∨ (c = .callOn ∨ c =
      .callOff ∨ c = .settleExpiry) ∨ c = .leave ∨ c = .floorViewExpiry)) :
    Part.view.same s t := by
  refine exec_kept h hc ?_
  cases c with
  | frameArrival _ _ | leave | floorViewExpiry | peerLossExpiry _ | lostRemovalExpiry _
  | audioReadyFall | audioReadyRise | callOn | callOff | settleExpiry => simp at hnot
  | _ => rfl

theorem kept_outcomes
    (hnot : ¬((∃ b v, c = .frameArrival b v) ∨ (∃ k, c = .req k) ∨ c = .settleExpiry ∨ ((∃ n,
      c = .peerLossExpiry n ∨ c = .lostRemovalExpiry n) ∨ c = .audioReadyFall ∨ c = .callOff) ∨ c
      = .status ∨ ∃ k, c = .requestTimeout k)) :
    Part.outcomes.same s t := by
  refine exec_kept h hc ?_
  cases c with
  | frameArrival _ _ | req _ | settleExpiry | status | requestTimeout _ | peerLossExpiry _
  | lostRemovalExpiry _ | audioReadyFall | callOff => simp at hnot
  | _ => rfl

theorem kept_reports
    (hnot : ¬((∃ b v, c = .frameArrival b v) ∨ (∃ k, c = .req k) ∨ c = .settleExpiry ∨ c =
      .status ∨ c = .reportSent)) :
    Part.reports.same s t := by
  refine exec_kept h hc ?_
  cases c with
  | frameArrival _ _ | req _ | settleExpiry | status | reportSent => simp at hnot
  | _ => rfl

theorem kept_sendQueue
    (hnot : ¬((∃ m d, c = .blockBoundary m d))) :
    Part.sendQueue.same s t := by
  refine exec_kept h hc ?_
  cases c with
  | blockBoundary _ _ => simp at hnot
  | _ => rfl

end

/-- No command touches the queue of waiting commands, and none but RESET moves the timer base back. -/
theorem exec_time {c : Instr} {s t : State} (h : exec c s = .next t) :
    t.pending = s.pending ∧ (c ≠ .reset → s.now ≤ t.now) := by
  by_cases hc : c = .reset
  · subst hc
    rw [reset_cases h]
    exact ⟨rfl, fun hne => absurd rfl hne⟩
  · exact ⟨exec_kept h hc (p := .commands) (by cases c <;> rfl),
      fun _ => exec_kept h hc (p := .time) (by cases c <;> rfl)⟩

/-- Settles O55, from the parts that each command may change. -/
theorem commandsKeepToTheirBlocks : Obligations.CommandsKeepToTheirBlocks := by
  refine ⟨fun c s t h hc => ⟨kept_loader h hc, kept_resetHeld h hc, kept_audioReady h hc,
    kept_mediumBusy h hc, fun hboundary => ?_, kept_ownMute h hc, kept_callFlag h hc,
    kept_window h hc, kept_mask h hc, kept_unknown h hc, kept_toggles h hc, kept_framesSent h hc,
    fun harrival => ?_, kept_flags h hc, kept_role h hc, kept_bridge h hc, kept_departed h hc,
    kept_stations h hc, kept_slots h hc, kept_latches h hc, kept_merges h hc, kept_floor h hc,
    kept_view h hc, kept_outcomes h hc, kept_reports h hc, kept_sendQueue h hc⟩,
    fun c s t h => exec_time h⟩
  · obtain ⟨hear, hcall⟩ := kept_outputs h hc hboundary
    exact ⟨hear, hcall, kept_capture h hc hboundary, kept_mix h hc hboundary⟩
  · obtain ⟨hcheck, hforeign, hclash⟩ := kept_tests h hc harrival
    exact ⟨hcheck, hforeign, hclash, kept_turnedAway h hc harrival⟩

end Sys2Proof.Machine
end

section
/-! PROOFS. Every step keeps the report queue legal, and the Mix Engine and its outputs in bounds. -/

namespace Sys2Proof.Machine

/-! ## Steps -/

/-- What is kept does not depend on the commands that wait. -/
theorem State.Inv.with_pending {s : State} (h : s.Inv) (l : List Instr) :
    ({ s with pending := l } : State).Inv :=
  ⟨h.settings, h.atRest, h.roster, h.queues, h.capture, h.role, h.sendQueue, h.due, h.link, h.work,
    h.bridge, h.term, h.floor, h.reports, h.mix, h.output⟩

/-- A step takes one command from a state that keeps the invariant, or lets time pass. -/
theorem step_cases {s t : State} (hinv : s.Inv) (h : step s = .next t) :
    t = s.tick ∨ ∃ (c : Instr) (r : State), r.Inv ∧ exec c r = .next t := by
  cases hp : s.pending with
  | nil =>
    simp only [step, hp] at h
    exact .inl (Host.Outcome.next.inj h).symm
  | cons c rest =>
    simp only [step, hp] at h
    exact .inr ⟨c, _, hinv.with_pending rest, h⟩

/-! ## Reports (R172) -/

theorem allRequests_of_no_pair {s : State} (h : s.pairOnItsWay = false) :
    allRequests ((s.cl.sending.toList ++ s.cl.waiting).map (·.kind)) = true := by
  simp only [State.pairOnItsWay, Bool.or_eq_false_iff, Option.any_eq_false, List.any_eq_false,
    Report.inPair] at h
  obtain ⟨hsending, hwaiting⟩ := h
  simp only [allRequests, List.all_map, List.all_append, Bool.and_eq_true, List.all_eq_true]
  refine ⟨fun r hr => ?_, fun r hr => ?_⟩
  · simpa using hsending r (by simpa using hr)
  · simpa using hwaiting r hr

/-- A report pushed goes behind all others; one of a pair does not count as a REQUEST. -/
theorem State.pushReport_queue {s : State} (hidle : s.cl.sending = none → s.cl.waiting = [])
    {r : Report} (hr : r.kind ≠ .request) :
    (s.pushReport r).cl.sending.toList ++ (s.pushReport r).cl.waiting =
      s.cl.sending.toList ++ s.cl.waiting ++ [r] ∧
    (s.pushReport r).cl.sending ≠ none ∧ (s.pushReport r).requestsWaiting = s.requestsWaiting := by
  cases hsending : s.cl.sending with
  | none => simp [State.pushReport, hsending, hidle hsending, State.requestsWaiting]
  | some first => simp [State.pushReport, hsending, State.requestsWaiting, hr]

/-- A pair that is formed with none on its way keeps the queue legal (R172). -/
theorem State.formPair_legal {s : State} (hpair : s.pairOnItsWay = false) (h : s.ReportsOk) :
    s.formPair.ReportsOk := by
  obtain ⟨_, hidle, hwaiting, hunknown, hoverflows⟩ := h
  obtain ⟨hqueue, hsending, hrequests⟩ := State.pushReport_queue hidle (r := s.statusReport)
    (by simp [State.statusReport, mkReport])
  obtain ⟨hqueue', hsending', hrequests'⟩ := State.pushReport_queue
    (s := s.pushReport s.statusReport) (fun hnone => absurd hnone hsending) (r := s.rosterReport)
    (by simp [State.rosterReport, mkReport])
  have hkinds : ((s.formPair.cl.sending.toList ++ s.formPair.cl.waiting).map (·.kind)) =
      (s.cl.sending.toList ++ s.cl.waiting).map (·.kind) ++ [.status, .roster] := by
    have : s.formPair.cl.sending.toList ++ s.formPair.cl.waiting =
        s.cl.sending.toList ++ s.cl.waiting ++ [s.statusReport] ++ [s.rosterReport] :=
      hqueue'.trans (congrArg (· ++ [s.rosterReport]) hqueue)
    rw [this]
    simp [State.statusReport, State.rosterReport, mkReport]
  refine ⟨?_, fun hnone => absurd hnone hsending', ?_, ?_, ?_⟩
  · rw [hkinds]
    exact reportsLegal_of_pair (pairAtMostOnce_append_pair (allRequests_of_no_pair hpair))
  · exact (hrequests'.trans hrequests).trans_le hwaiting
  · have : s.formPair.cl.unknownCommands = s.cl.unknownCommands :=
      State.Only.formPair s .unknown (by decide)
    omega
  · have : s.formPair.cl.reportOverflows = s.cl.reportOverflows :=
      (State.Only.formPair s .merges (by decide)).2
    omega

theorem reportSent_legal {s : State} {r : Report} (hr : s.cl.sending = some r) (h : s.ReportsOk) :
    ({ s with cl := { s.cl with sending := s.cl.waiting.head?, waiting := s.cl.waiting.drop 1 } } :
      State).ReportsOk := by
  obtain ⟨hlegal, hidle, hwaiting, hunknown, hoverflows⟩ := h
  rw [hr] at hlegal
  have htail := reportsLegal_tail hlegal
  have hrest : (s.cl.waiting.head?.toList ++ s.cl.waiting.drop 1) = s.cl.waiting := by
    cases s.cl.waiting <;> rfl
  refine ⟨?_, fun hnone => ?_, ?_, hunknown, hoverflows⟩
  · rw [hrest]
    exact htail
  · rw [List.head?_eq_none_iff] at hnone
    simp [hnone]
  · exact (((List.drop_sublist 1 _).filter _).length_le).trans hwaiting

/-- Every command keeps the report queue legal. -/
theorem exec_reportsOk {c : Instr} {s t : State} (h : exec c s = .next t) (hs : s.ReportsOk) :
    t.ReportsOk := by
  by_cases hc : c = .reset
  · subst hc
    rw [reset_cases h]
    exact ⟨rfl, fun _ => rfl, Nat.zero_le _, Nat.zero_le _, Nat.zero_le _⟩
  by_cases hlegal : (partsOf c).contains .reportsOk = false
  · exact exec_kept h hc (p := .reportsOk) hlegal hs
  · cases c with
    | status =>
      rcases status_cases h with rfl | ⟨hpair, rfl⟩
      · exact hs
      · exact State.formPair_legal hpair hs
    | unknownCommand b stop =>
      rcases unknownCommand_cases h with rfl | ⟨_, rfl⟩
      · exact hs
      · obtain ⟨hlegal, hidle, hwaiting, _, hoverflows⟩ := hs
        exact ⟨hlegal, hidle, hwaiting, min_le_left _ _, hoverflows⟩
    | reportSent =>
      rcases reportSent_cases h with rfl | ⟨r, hr, rfl⟩
      · exact hs
      · exact reportSent_legal hr hs
    | _ => exact absurd rfl hlegal

/-! ## The mix (R115, R121 to R123) -/

theorem duckRamp_le {attack release target duck : Nat} (htarget : target ≤ 1024) (hduck : duck ≤ 1024) :
    duckRamp attack release target duck ≤ 1024 := by
  unfold duckRamp
  split_ifs <;> omega

/-- A peak that the sources can reach leaves a gain of at least 744 (R121). -/
theorem limiterGain_bounds {release peak gain : Nat} (hpeak : peak ≤ 1441440)
    (hrelease : 1 ≤ release) (hgain : 744 ≤ gain) :
    744 ≤ limiterGain release peak gain ∧ limiterGain release peak gain ≤ 32768 := by
  have hfloor : 32767 < peak → 744 ≤ 1073709056 / peak := fun hlow =>
    (Nat.le_div_iff_mul_le (by omega)).2 (by omega)
  rw [limiterGain_eq]
  split
  · next hlow =>
    have := hfloor hlow
    omega
  · omega

/-- A bus keeps its bounds under a mix whose target and sums are in theirs. -/
theorem Bus.Ok.mix {b : Bus} (h : b.Ok) {cfg : Settings} (hrelease : 1 ≤ cfg.limiterRelease)
    {target : Nat} (htarget : target ≤ 1024) {srcs : List Source}
    (hsums : ∀ d ≤ 1024, ∀ i, (mixAcc d srcs i).natAbs ≤ 1441440) :
    (b.mix cfg target srcs).1.Ok := by
  obtain ⟨hduck, ⟨hlow, _⟩, hoverloads⟩ := h
  obtain ⟨hd, hl, ho, _⟩ := b.mix_eq cfg target srcs
  have hramped : (b.mix cfg target srcs).1.duck ≤ 1024 := hd ▸ duckRamp_le htarget hduck
  obtain ⟨_, i, _, hat⟩ := mixPeak_mixAccs (b.mix cfg target srcs).1.duck srcs
  refine ⟨hramped, ?_, ?_⟩
  · rw [hl, ← hat]
    exact limiterGain_bounds (hsums _ hramped i) hrelease hlow
  · rw [ho]
    split <;> omega

/-- Every sample that a mix gives lies in R122's range. -/
theorem Bus.mix_inOutputRange (b : Bus) (cfg : Settings) (target : Nat) (srcs : List Source) :
    inOutputRange (b.mix cfg target srcs).2 := by
  obtain ⟨_, hl, _, hsample⟩ := b.mix_eq cfg target srcs
  obtain ⟨hle, _⟩ := mixPeak_mixAccs (b.mix cfg target srcs).1.duck srcs
  refine List.all_eq_true.2 fun x hx => decide_eq_true ?_
  obtain ⟨i, hi, hat⟩ := List.getElem_of_mem hx
  have hlt : i < 32 := by rw [← (b.mix cfg target srcs).2.len]; exact hi
  have hx : (b.mix cfg target srcs).2.sample i = x := by
    simp only [Block.sample, List.getD_eq_getElem?_getD, List.getElem?_eq_getElem hi, hat,
      Option.getD_some]
  rw [← hx, hsample i hlt, hl]
  exact (toInt_mixOutput (natAbs_mul_limiterGain_le _ _ (hle i hlt))).2

theorem silence_inOutputRange : inOutputRange Block.silence := by decide

theorem State.targets_le {s : State} (h : s.cfg.InRange) (callDuck : Bool) :
    s.earTarget callDuck ≤ 1024 ∧ s.upTarget ≤ 1024 := by
  obtain ⟨-, -, -, -, -, -, -, -, -, -, -, -, -, hcall, hfloor, -⟩ := h
  rw [State.earTarget_eq hcall, State.upTarget_eq]
  constructor
  · split <;> split <;> omega
  · split <;> omega

/-- Both gains of a bus at rest are the largest (R124, R125). -/
theorem Bus.Ok.rested {b : Bus} (h : b.Ok) : ({ b with duck := 1024, limiter := 32768 } : Bus).Ok := by
  obtain ⟨_, _, hoverloads⟩ := h
  exact ⟨le_refl 1024, ⟨(by decide : 744 ≤ 32768), le_refl 32768⟩, hoverloads⟩

/-- A boundary taken keeps the Mix Engine in bounds (R115, R121, R123). -/
theorem State.afterMix_mixOk {s : State} (hcfg : s.cfg.InRange) (hroster : s.RosterOk)
    (h : s.MixOk) (mic call : Block) : (s.afterMix mic call).MixOk := by
  obtain ⟨hear, hup, hhold⟩ := h
  rw [s.afterMix_eq mic call rfl]
  have htargets := State.targets_le hcfg
  have hsums := hcfg
  obtain ⟨-, -, -, -, -, -, -, -, -, -, -, -, -, -, -, hduckHold, -, -, ⟨hrelease, -⟩, -⟩ := hcfg
  refine ⟨hear.mix hrelease (htargets _).1 fun d hd i =>
    State.natAbs_mixAcc_earSources hsums hroster hd _ i, ?_, ?_⟩
  · dsimp only [State.upMixed]
    split
    · exact hup.mix hrelease (htargets true).2 fun d hd i =>
        (State.natAbs_mixAcc_upSources hsums hroster hd _ i).trans (by decide)
    · exact hup
  · dsimp only [State.holdMixed]
    split
    · exact hduckHold
    · omega

/-- A boundary taken hands both ports samples in range (R122). -/
theorem State.afterMix_outputOk (s : State) (mic call : Block) :
    (s.afterMix mic call).OutputOk := by
  rw [s.afterMix_eq mic call rfl]
  refine ⟨Bus.mix_inOutputRange _ _ _ _, ?_⟩
  dsimp only [State.upMixed]
  split
  · exact Bus.mix_inOutputRange _ _ _ _
  · exact silence_inOutputRange

theorem State.enterActive_mixOk {s : State} (h : s.MixOk) : s.enterActive.MixOk := by
  obtain ⟨hear, hup, hhold⟩ := h
  have hme : s.enterActive.me = { s.me with up := { s.me.up with duck := 1024, limiter := 32768 } } := by
    simp [State.enterActive]
  rw [State.MixOk, hme]
  exact ⟨hear, hup.rested, hhold⟩

theorem State.restMix_mixOk {s : State} (h : s.MixOk) : s.restMix.MixOk := by
  obtain ⟨hear, hup, _⟩ := h
  exact ⟨hear.rested, hup.rested, Nat.zero_le _⟩

theorem mixOk_congr {s t : State} (h : t.me = s.me) (hs : s.MixOk) : t.MixOk := by
  rw [State.MixOk, h]
  exact hs

/-- Every command keeps the Mix Engine in bounds. -/
theorem exec_mixOk {c : Instr} {s t : State} (hinv : s.Inv) (h : exec c s = .next t) : t.MixOk := by
  have hs := hinv.mix
  by_cases hc : c = .reset
  · subst hc
    rw [reset_cases h]
    exact mixOk_congr (s := State.reset) rfl (by decide)
  by_cases hmix : (partsOf c).contains .mix = false
  · exact mixOk_congr (exec_kept h hc (p := .mix) hmix) hs
  · cases c with
    | blockBoundary mic call =>
      rcases blockBoundary_cases h with rfl | ⟨_, ⟨_, rfl⟩ | ⟨hrun, rfl⟩⟩
      · exact hs
      · exact hs
      · exact mixOk_congr (by simp)
          (State.afterMix_mixOk (hinv.settings hrun) hinv.roster hs mic call)
    | audioReadyRise =>
      rcases audioReadyRise_cases h with rfl | ⟨_, ⟨_, rfl⟩ | ⟨_, rfl⟩⟩
      · exact hs
      · exact mixOk_congr (by simp [State.rejoin]) hs
      · exact mixOk_congr (by simp [State.rejoin, State.restMix, State.flushAll])
          (State.restMix_mixOk hs)
    | settleExpiry =>
      rcases settleExpiry_cases h with rfl | ⟨e, _, ⟨_, rfl⟩ | ⟨_, rfl⟩⟩
      · exact hs
      · exact mixOk_congr (by simp) hs
      · exact mixOk_congr (by simp) (State.enterActive_mixOk (s := s.catchUp e) hs)
    | _ => exact absurd rfl hmix

/-- Every command keeps what was last handed to the ports in range. -/
theorem exec_outputOk {c : Instr} {s t : State} (hs : s.OutputOk) (h : exec c s = .next t) :
    t.OutputOk := by
  by_cases hc : c = .reset
  · subst hc
    rw [reset_cases h]
    exact ⟨silence_inOutputRange, silence_inOutputRange⟩
  by_cases hout : (partsOf c).contains .outputs = false
  · obtain ⟨hear, hcall⟩ := exec_kept h hc (p := .outputs) hout
    rw [State.OutputOk, hear, hcall]
    exact hs
  · cases c with
    | blockBoundary mic call =>
      rcases blockBoundary_cases h with rfl | ⟨_, ⟨_, rfl⟩ | ⟨_, rfl⟩⟩
      · exact hs
      · exact ⟨silence_inOutputRange, silence_inOutputRange⟩
      · obtain ⟨hear, hcall⟩ : Part.outputs.same _ _ :=
          State.Only.linkReact (s.afterMix mic call) .outputs (by decide)
        rw [State.OutputOk, hear, hcall]
        exact s.afterMix_outputOk mic call
    | _ => exact absurd rfl hout

/-- Settles O60, by the parts that each command may change. -/
theorem stepKeepsReportsAndMix : Obligations.StepKeepsReportsAndMix := by
  intro s t hinv h
  rcases step_cases hinv h with rfl | ⟨c, r, hr, hexec⟩
  · rw [State.tick]
    split <;> exact ⟨hinv.reports, hinv.mix, hinv.output⟩
  · exact ⟨exec_reportsOk hexec hr.reports, exec_mixOk hr hexec, exec_outputOk hr.output hexec⟩

end Sys2Proof.Machine
end

section
/-! PROOFS. Every step keeps the sending side: the spurt and the role, the send queue, what is due,
and the Link Port (chapters 1, 3 and 4). -/

namespace Sys2Proof.Machine

/-! ## The spurt (R58, R59) -/

theorem Block.level_le (b : Block) : b.level ≤ 32768 := by
  obtain ⟨_, hzero | ⟨x, _, hx⟩⟩ := Block.level_spec b
  · omega
  · have hlow : -32768 ≤ x.toInt := BitVec.le_toInt x
    have hhigh : x.toInt < 32768 := BitVec.toInt_lt
    omega

theorem smooth_le {avg level : Nat} (havg : avg ≤ 32768) (hlevel : level ≤ 32768) :
    smooth avg level ≤ 32768 := by
  have := smooth_eq avg level
  omega

/-- R59's table keeps the hangover count: none outside HANGOVER, below *H* inside it. -/
theorem spurtStep_bounds {len count : Nat} (hlen : 2 ≤ len) (st : Spurt) (voice : Bool) :
    ((spurtStep len st count voice).spurt ≠ .hangover →
      (spurtStep len st count voice).hangover = 0) ∧
    ((spurtStep len st count voice).spurt = .hangover →
      1 ≤ (spurtStep len st count voice).hangover ∧
      (spurtStep len st count voice).hangover < len) := by
  fun_cases spurtStep len st count voice with
  | case1 | case2 | case3 | case5 => exact ⟨fun _ => rfl, nofun⟩
  | case4 => exact ⟨fun h => absurd rfl h, fun _ => ⟨le_rfl, hlen⟩⟩
  | case6 h => exact ⟨fun hne => absurd rfl hne, fun _ => ⟨Nat.le_add_left _ _, h⟩⟩
  | case7 => exact ⟨fun _ => rfl, nofun⟩

/-- A boundary taken keeps the spurt (R57 to R62). -/
theorem State.capture_captureOk {s : State} (hcfg : s.cfg.InRange) (h : s.CaptureOk) (mic : Block) :
    (s.capture mic).1.CaptureOk := by
  obtain ⟨havg, _⟩ := h
  have hsmooth := smooth_le havg (Block.level_le mic)
  rw [State.capture_eq]
  split
  · exact ⟨hsmooth, fun _ => ⟨rfl, rfl⟩, fun _ => rfl, nofun⟩
  · obtain ⟨-, -, -, -, -, -, -, -, -, -, ⟨hlen, -⟩, -⟩ := hcfg
    obtain ⟨hout, hin⟩ := spurtStep_bounds (count := s.cu.hangover) (Nat.le_trans (by decide) hlen)
      s.cu.spurt (s.isVoice mic)
    exact ⟨hsmooth, fun hquiet => ⟨hout fun hne => absurd (hquiet.symm.trans hne) (by decide),
        Bool.and_eq_false_iff.2 (.inr (decide_eq_false fun hne => hne hquiet))⟩,
      fun htalking => hout fun hne => absurd (htalking.symm.trans hne) (by decide), hin⟩

theorem captureOk_congr {s t : State} (hcu : t.cu = s.cu) (hlen : t.cfg.hangover = s.cfg.hangover)
    (hs : s.CaptureOk) : t.CaptureOk := by
  rw [State.CaptureOk, hcu, hlen]
  exact hs

/-- Every command keeps the spurt. -/
theorem exec_captureOk {c : Instr} {s t : State} (hinv : s.Inv) (h : exec c s = .next t) :
    t.CaptureOk := by
  have hs := hinv.capture
  by_cases hc : c = .reset
  · subst hc
    rw [reset_cases h]
    exact captureOk_congr (s := State.reset) rfl rfl (by decide)
  by_cases hkept : (partsOf c).contains .capture = false ∧ (partsOf c).contains .loader = false
  · obtain ⟨hcapture, hloader⟩ := hkept
    have hsl : t.sl = s.sl := exec_kept h hc (p := .loader) hloader
    exact captureOk_congr (exec_kept h hc (p := .capture) hcapture) (by rw [State.cfg, hsl]) hs
  · cases c with
    | resetRelease =>
      rcases resetRelease_cases h with rfl | ⟨_, rfl⟩
      · exact hs
      · exact hs
    | loadingComplete img =>
      rcases loadingComplete_cases h with rfl | ⟨_, f, rfl⟩ | ⟨hloading, _, _, rfl⟩
      · exact hs
      · exact hs
      · obtain ⟨_, _, hcu, _⟩ := hinv.atRest.1 (by simp [State.running, hloading])
        have : (s.startRunning img).linkReact.cu = CaptureUnit.reset := by simp [hcu]
        rw [State.CaptureOk, this]
        exact ⟨by decide, fun _ => ⟨rfl, rfl⟩, fun _ => rfl, nofun⟩
    | blockBoundary mic call =>
      rcases blockBoundary_cases h with rfl | ⟨_, ⟨_, rfl⟩ | ⟨hrun, rfl⟩⟩
      · exact hs
      · exact hs
      · exact captureOk_congr (by simp [State.afterMix, State.beforeMix])
          (by simp [State.afterMix, State.beforeMix, State.cfg])
          (State.capture_captureOk (hinv.settings hrun) hs mic)
    | audioReadyFall =>
      obtain ⟨havg, _⟩ := id hs
      rcases audioReadyFall_cases h with rfl | ⟨_, rfl⟩ | ⟨_, rfl⟩
      · exact hs
      · exact hs
      · exact captureOk_congr (s := s.isolate.cutSpurt) (by simp) (by simp [State.cfg])
          ⟨havg, fun _ => ⟨rfl, rfl⟩, fun _ => rfl, nofun⟩
    | audioReadyRise =>
      obtain ⟨_, hspurt⟩ := id hs
      rcases audioReadyRise_cases h with rfl | ⟨_, ⟨_, rfl⟩ | ⟨_, rfl⟩⟩
      · exact hs
      · exact captureOk_congr (by simp [State.rejoin]) (by simp [State.rejoin, State.cfg]) hs
      · exact captureOk_congr (s := s.freshScore) (by simp [State.rejoin, State.freshScore])
          (by simp [State.rejoin, State.cfg, State.freshScore]) ⟨Nat.zero_le _, hspurt⟩
    | _ => exact absurd ⟨rfl, rfl⟩ hkept

/-! ## The role (R44, R51) -/

/-- Every command keeps the role. -/
theorem exec_roleOk {c : Instr} {s t : State} (hs : s.RoleOk) (h : exec c s = .next t) :
    t.RoleOk := by
  by_cases hc : c = .reset
  · subst hc
    rw [reset_cases h]
    exact ⟨fun hisolated => ⟨if_pos hisolated, rfl⟩, nofun⟩
  by_cases hrole : (partsOf c).contains .roleOk = false
  · exact exec_kept h hc (p := .roleOk) hrole hs
  · cases c with
    | blockBoundary mic call =>
      rcases blockBoundary_cases h with rfl | ⟨hready, ⟨_, rfl⟩ | ⟨_, rfl⟩⟩
      · exact hs
      · exact hs
      · refine State.Only.linkReact _ .roleOk (by decide) (State.Only.playAndMix _ mic call _ .roleOk
          (by decide) (State.stepDownEffect_roleOk (fun hisolated => ?_) fun hpending => ?_))
        · simp [State.isolated, hready] at hisolated
        · have hwl : ((s.capture mic).1.joinEntries (s.capture mic).2 call).wl = s.wl := by simp
          rw [hwl] at hpending ⊢
          exact (hs.2 hpending).1
    | audioReadyFall =>
      have isolated (u : State) (hwl : u.wl.role = .standby ∧ u.wl.stepDown = false) : u.RoleOk :=
        ⟨fun _ => hwl, fun hpending => by rw [hwl.2] at hpending; cases hpending⟩
      rcases audioReadyFall_cases h with rfl | ⟨_, rfl⟩ | ⟨_, rfl⟩
      · exact hs
      · exact isolated _ ⟨rfl, rfl⟩
      · exact isolated _ (by simp [State.isolate])
    | _ => exact absurd rfl hrole

/-! ## The send queue (R65 to R67) -/

section
variable {s : State}

/-- An entry of the present boundary joins behind the others of its tag, all of them older. -/
theorem State.joinQueue_sendQueueOk (h : s.SendQueueOk) {e : SendEntry}
    (hseq : e.seq = s.cu.captureCount) (hlevel : e.level ≤ 32768)
    (holder : ∀ x ∈ s.sa.queue, x.tag = e.tag → 1 ≤ seqAhead x.seq s.cu.captureCount)
    (hcall : s.bu.state ≠ .active → e.tag = .voice) : (s.joinQueue e).SendQueueOk := by
  obtain ⟨hlen, hentries, hsorted, hvoice, hdrops⟩ := h
  have joined {q : List SendEntry} (hq : q.Sublist s.sa.queue) (hroom : q.length < 12) {n : Nat}
      (hn : n ≤ 65535) (f : BitVec 12) : ({ s with
        sa := { s.sa with queue := q ++ [e], sendDrops := n }
        cl := { s.cl with flags := f } } : State).SendQueueOk := by
    refine ⟨by simpa using hroom, fun x hx => ?_, List.pairwise_append.2 ⟨hsorted.sublist hq,
      List.pairwise_singleton _ _, fun x hx y hy htag => ?_⟩, fun hstate x hx => ?_, hn⟩
    · rcases List.mem_append.1 hx with hx | hx
      · exact hentries x (hq.subset hx)
      · obtain rfl := List.mem_singleton.1 hx
        exact ⟨by simp [seqAhead, hseq], hlevel⟩
    · obtain rfl := List.mem_singleton.1 hy
      rw [hseq]
      exact ⟨holder x (hq.subset hx) htag, (hentries x (hq.subset hx)).1⟩
    · rcases List.mem_append.1 hx with hx | hx
      · exact hvoice hstate x (hq.subset hx)
      · obtain rfl := List.mem_singleton.1 hx
        exact hcall hstate
  by_cases hroom : s.sa.queue.length < 12
  · rw [State.joinQueue_of_room hroom]
    exact joined (.refl _) hroom (min_le_left _ _) _
  · rw [State.joinQueue_of_full (Nat.not_lt.1 hroom)]
    exact joined (List.drop_sublist _ _) (by rw [List.length_drop]; omega) (min_le_left _ _) _

/-- Behind a joined entry the entries of the other tag are as they were. -/
theorem State.mem_joinQueue {e x : SendEntry} (hx : x ∈ (s.joinQueue e).sa.queue) :
    x ∈ s.sa.queue ∨ x = e := by
  by_cases hroom : s.sa.queue.length < 12
  · rw [State.joinQueue_of_room hroom] at hx
    simpa using hx
  · rw [State.joinQueue_of_full (Nat.not_lt.1 hroom)] at hx
    rcases List.mem_append.1 hx with hx | hx
    · exact .inl (List.mem_of_mem_drop hx)
    · exact .inr (List.mem_singleton.1 hx)

/-- One boundary on, the entries that ageing leaves are 1 to 11 boundaries old (R67). -/
theorem State.ageQueue_sendQueueOk {u : State} (h : s.SendQueueOk) (hsa : u.sa = s.sa)
    (hbu : u.bu = s.bu) (hcount : u.cu.captureCount = s.cu.captureCount + 1) :
    u.ageQueue.SendQueueOk ∧
    ∀ x ∈ u.ageQueue.sa.queue, 1 ≤ seqAhead x.seq u.ageQueue.cu.captureCount := by
  obtain ⟨hlen, hentries, hsorted, hvoice, hdrops⟩ := h
  have hsub : u.young.Sublist s.sa.queue := hsa ▸ List.filter_sublist
  have aged (x : SendEntry) (hx : x ∈ u.young) :
      1 ≤ seqAhead x.seq u.cu.captureCount ∧ seqAhead x.seq u.cu.captureCount ≤ 11 := by
    have hyoung : seqAhead x.seq u.cu.captureCount < 12 := of_decide_eq_true (List.mem_filter.1 hx).2
    have hold := (hentries x (hsub.subset hx)).1
    rw [hcount] at hyoung ⊢
    simp only [seqAhead] at hold hyoung ⊢
    bv_omega
  rw [State.ageQueue_eq]
  refine ⟨⟨hsub.length_le.trans hlen, fun x hx => ⟨(aged x hx).2, (hentries x (hsub.subset hx)).2⟩,
    hsorted.sublist hsub, fun hstate x hx => ?_, min_le_left _ _⟩, fun x hx => (aged x hx).1⟩
  exact hvoice (hbu ▸ hstate) x (hsub.subset hx)

/-- The VOICE entry of a boundary is one of this boundary, with its block's level. -/
theorem State.capture_entry {mic : Block} {e : SendEntry} (h : (s.capture mic).2 = some e) :
    e.tag = .voice ∧ e.seq = (s.capture mic).1.cu.captureCount ∧ e.level ≤ 32768 := by
  rw [State.capture_eq] at h ⊢
  split at h
  · next hmuted =>
    obtain rfl := Option.some.inj h
    rw [if_pos hmuted]
    exact ⟨rfl, rfl, Nat.zero_le _⟩
  · next hgoes =>
    rw [if_neg hgoes]
    obtain ⟨_, he⟩ := Option.ite_none_right_eq_some.1 h
    obtain rfl := Option.some.inj he
    exact ⟨rfl, rfl, Block.level_le mic⟩

/-- A boundary taken keeps the send queue (R64, R66, R67). -/
theorem State.joinEntries_sendQueueOk (h : s.SendQueueOk) (mic call : Block) :
    ((s.capture mic).1.joinEntries (s.capture mic).2 call).SendQueueOk := by
  obtain ⟨haged, hold⟩ := State.ageQueue_sendQueueOk (u := (s.capture mic).1) h (by simp) (by simp)
    (s.capture_counts mic).1
  have called {u : State} (hu : u.SendQueueOk)
      (holder : ∀ x ∈ u.sa.queue, x.tag = .call → 1 ≤ seqAhead x.seq u.cu.captureCount) :
      (if u.bu.state = .active then u.joinQueue (u.callEntry call) else u).SendQueueOk := by
    split
    · next hactive =>
      exact State.joinQueue_sendQueueOk hu rfl (Block.level_le call) holder fun hne => absurd hactive hne
    · exact hu
  unfold State.joinEntries
  cases hvoice : (s.capture mic).2 with
  | none => exact called haged fun x hx _ => hold x hx
  | some e =>
    obtain ⟨htag, hseq, hlevel⟩ := State.capture_entry hvoice
    have hcount : (s.capture mic).1.ageQueue.cu = (s.capture mic).1.cu := by simp
    refine called (State.joinQueue_sendQueueOk haged (by rw [hseq, hcount]) hlevel
      (fun x hx _ => hold x hx) fun _ => htag) fun x hx hcall => ?_
    have hjoined : ((s.capture mic).1.ageQueue.joinQueue e).cu = (s.capture mic).1.ageQueue.cu := by
      simp
    rcases State.mem_joinQueue hx with hx | rfl
    · rw [hjoined]
      exact hold x hx
    · rw [htag] at hcall
      cases hcall

end

/-- Every command keeps the send queue. -/
theorem exec_sendQueueOk {c : Instr} {s t : State} (hs : s.SendQueueOk) (h : exec c s = .next t) :
    t.SendQueueOk := by
  by_cases hc : c = .reset
  · subst hc
    rw [reset_cases h]
    exact ⟨Nat.zero_le _, nofun, .nil, fun _ => nofun, Nat.zero_le _⟩
  by_cases hqueue : (partsOf c).contains .sendQueueOk = false
  · exact exec_kept h hc (p := .sendQueueOk) hqueue hs
  · cases c with
    | blockBoundary mic call =>
      rcases blockBoundary_cases h with rfl | ⟨_, ⟨_, rfl⟩ | ⟨_, rfl⟩⟩
      · exact hs
      · exact hs
      · exact State.Only.linkReact _ .sendQueueOk (by decide) (State.Only.playAndMix _ mic call _
          .sendQueueOk (by decide) (State.Only.stepDownEffect _ .sendQueueOk (by decide)
          (State.joinEntries_sendQueueOk hs mic call)))
    | _ => exact absurd rfl hqueue

/-! ## What is due (R69, R70) and the Link Port (R5 to R12) -/

/-- Every command keeps what is due. -/
theorem exec_dueOk {c : Instr} {s t : State} (hinv : s.Inv) (h : exec c s = .next t) : t.DueOk := by
  have hs := hinv.due
  by_cases hc : c = .reset
  · subst hc
    rw [reset_cases h]
    exact ⟨rfl, nofun, nofun, rfl, nofun⟩
  by_cases hdue : (partsOf c).contains .dueOk = false
  · exact exec_kept h hc (p := .dueOk) hdue hs
  · cases c with
    | loadingComplete img =>
      rcases loadingComplete_cases h with rfl | ⟨_, f, rfl⟩ | ⟨hloading, _, _, rfl⟩
      · exact hs
      · obtain ⟨hhail, htimer, _, hrest⟩ := hs
        exact ⟨hhail, htimer, nofun, hrest⟩
      · obtain ⟨_, hsa, _⟩ := hinv.atRest.1 (by simp [State.running, hloading])
        refine State.Only.linkReact _ .dueOk (by decide) ?_
        obtain ⟨hhail, htimer, _⟩ := hs
        have hstarted : (s.startRunning img).sa = { s.sa with
            scheduledDue := true, promotionTimer := some (s.now + presenceInterval) } := by
          simp [State.startRunning]
        have hru : (s.startRunning img).ru = s.ru := by simp
        rw [State.DueOk, hstarted, hru]
        exact ⟨hhail, htimer, fun _ => .inr (.inl rfl), rfl, fun _ => by rw [hsa]; rfl⟩
    | _ => exact absurd rfl hdue

/-- Every command keeps the Link Port's record. -/
theorem exec_linkOk {c : Instr} {s t : State} (hs : s.LinkOk) (h : exec c s = .next t) : t.LinkOk := by
  by_cases hc : c = .reset
  · subst hc
    rw [reset_cases h]
    exact ⟨.head _, rfl, rfl, fun hne => absurd rfl hne, rfl, Nat.zero_le _, Nat.zero_le _,
      Nat.zero_le _, Nat.zero_le _⟩
  · exact exec_kept h hc (p := .linkOk) (by cases c <;> rfl) hs

/-! ## IDLE and DEFER by what is due (R6, R9, R11) -/

section
variable {s t : State}

/-- What is due is read from the Send Assembler, the settings, the capture count and AUDIO_READY. -/
theorem State.frameDue_congr (hsa : t.sa = s.sa) (hsl : t.sl = s.sl)
    (hcount : t.cu.captureCount = s.cu.captureCount)
    (hready : t.ports.audioReady = s.ports.audioReady) : t.frameDue = s.frameDue := by
  have htalk : t.talkDue = s.talkDue := by
    unfold State.talkDue
    simp only [State.tagged, State.ageMs, State.isolated, State.cfg, hsa, hsl, hcount, hready]
    rfl
  simp only [State.frameDue, State.chooseKind, State.running, htalk, hsa, hsl]

theorem workConserving_congr (haccess : t.lp.access = s.lp.access) (hdue : t.frameDue = s.frameDue)
    (h : s.WorkConserving) : t.WorkConserving := by
  rw [State.WorkConserving, haccess, hdue]
  exact h

theorem workConserving_of_sent (h : t.lp.access = .sending ∨ t.lp.access = .turnaround) :
    t.WorkConserving := by
  rcases h with h | h <;> rw [State.WorkConserving, h] <;> exact ⟨nofun, nofun⟩

theorem State.linkIdle_work (h : s.frameDue = false) : s.linkIdle.WorkConserving :=
  ⟨fun _ => h, nofun⟩

/-- Behind its reaction the Link Port stands as what is due demands (assumption 7). -/
theorem State.linkReact_work (s : State) : s.linkReact.WorkConserving := by
  cases haccess : s.lp.access with
  | idle =>
    rw [State.linkReact_of_idle haccess]
    cases hdue : s.frameDue with
    | false => exact ⟨fun _ => hdue, fun hdefer => by simp [haccess] at hdefer⟩
    | true =>
      rw [if_pos rfl]
      by_cases hquiet : s.QuietGap
      · rw [State.accessStart_of_quiet hquiet]
        rcases s.ask_cases with ⟨hnone, _⟩ | ⟨k, _, hask⟩
        · simp [State.frameDue, hnone] at hdue
        · rw [hask]
          exact workConserving_of_sent (.inl rfl)
      · rw [State.accessStart_of_not_quiet hquiet]
        exact ⟨nofun, fun _ => hdue⟩
  | defer =>
    rw [State.linkReact_of_defer haccess]
    cases hdue : s.frameDue with
    | false => exact State.linkIdle_work hdue
    | true => exact ⟨fun hidle => by simp [haccess] at hidle, fun _ => hdue⟩
  | sending =>
    rw [State.linkReact_of_sent (.inl haccess)]
    exact workConserving_of_sent (.inl haccess)
  | turnaround =>
    rw [State.linkReact_of_sent (.inr haccess)]
    exact workConserving_of_sent (.inr haccess)

/-- An ask that finds nothing due enters IDLE. -/
theorem State.ask_work (s : State) : s.ask.WorkConserving := by
  rcases s.ask_cases with ⟨hnone, hask⟩ | ⟨k, _, hask⟩ <;> rw [hask]
  · exact State.linkIdle_work (by simp [State.frameDue, hnone])
  · exact workConserving_of_sent (.inl rfl)

/-- Without a lower claimer an evaluation leaves an ACTIVE Bridge Unit and the send queue alone. -/
theorem State.notice_sa (h : s.bu.state = .active → s.lowerClaimer = false) (n : Nat)
    (isMate : Bool) : (s.notice n isMate).sa = s.sa := by
  have hru : (s.mateEvent isMate).ru = s.ru := by simp
  have hbu : (s.mateEvent isMate).bu = s.bu := by simp
  have hsl : (s.mateEvent isMate).sl = s.sl := by simp
  have hsa : (s.mateEvent isMate).evaluateState.sa = s.sa := by
    rcases (s.mateEvent isMate).evaluateState_cases with he | ⟨_, he⟩ | ⟨_, _, he⟩ | ⟨hactive, he⟩
    · rw [he]
      simp
    · rw [he]
      simp
    · rw [he]
      simp
    · have hlower : (s.mateEvent isMate).lowerClaimer = false := by
        rw [State.lowerClaimer_eq, State.own, hru, hsl, ← State.own, ← State.lowerClaimer_eq]
        exact h (hbu ▸ hactive)
      rw [State.evaluateState_of_kept (.inr (.inl ⟨.inr hactive, hlower⟩))]
      simp
  simpa [State.notice, State.evaluateBridge] using hsa

end

/-- Without an entry fewer entries claim. -/
theorem claimBelow_sublist {own : Nat} {ps qs : List Peer} (hsub : qs.Sublist ps)
    (h : claimBelow own ps = false) : claimBelow own qs = false := by
  simp only [claimBelow, List.any_eq_false] at h ⊢
  exact fun p hp => h p (hsub.subset hp)

/-- A LOST entry claims nothing (R130). -/
theorem State.lowerClaimer_peerLost {s : State} (h : s.lowerClaimer = false) (n e : Nat) :
    (s.peerLost n e).lowerClaimer = false := by
  rw [State.lowerClaimer_eq, claimBelow, List.any_eq_false] at h ⊢
  intro q hq
  obtain ⟨p, hp, rfl⟩ := List.mem_map.1 hq
  by_cases hn : p.station = n
  · simp [hn]
  · rw [if_neg hn]
    exact h p hp

/-- No lower claimer stands beside an ACTIVE Bridge Unit. -/
theorem State.Inv.lowerClaimer_of_active {s : State} (h : s.Inv) (hactive : s.bu.state = .active) :
    s.lowerClaimer = false := by
  obtain ⟨_, _, hlower, _⟩ := h.bridge
  exact hlower (.inr hactive)

/-- A scheduled PRESENCE promoted to a prompt one is due before and after. -/
theorem State.frameDue_promoted {s : State} {e : Nat} (hdue : s.DueOk)
    (htimer : s.sa.promotionTimer = some e) : (s.promoted e).frameDue = s.frameDue := by
  obtain ⟨_, _, _, hscheduled, _⟩ := hdue
  rw [htimer] at hscheduled
  have hbefore : s.chooseKind.isSome = true := by
    have hdue : s.sa.scheduledDue = true := hscheduled.symm
    rw [State.chooseKind, if_pos hdue]
    split_ifs <;> rfl
  have hafter : (s.promoted e).chooseKind.isSome = true := by
    simp only [State.chooseKind, State.promoted]
    split_ifs <;> rfl
  rw [State.frameDue, State.frameDue, hbefore, hafter]
  rfl

/-- A state that is not RUNNING has nothing due. -/
theorem State.frameDue_of_not_running {s : State} (h : ¬s.running) : s.frameDue = false := by
  rw [State.frameDue, decide_eq_false h, Bool.false_and]

/-- Every command leaves the Link Port in IDLE only with no frame due, and in DEFER only with one. -/
theorem exec_workConserving {c : Instr} {s t : State} (hinv : s.Inv) (h : exec c s = .next t) :
    t.WorkConserving := by
  have hs := hinv.work
  by_cases hc : c = .reset
  · subst hc
    rw [reset_cases h]
    exact ⟨fun _ => rfl, nofun⟩
  by_cases hkept : (partsOf c).contains .link = false ∧ (partsOf c).contains .assembler = false ∧
      (partsOf c).contains .loader = false ∧ (partsOf c).contains .capture = false ∧
      (partsOf c).contains .audioReady = false
  · obtain ⟨hlink, hassembler, hloader, hcapture, hready⟩ := hkept
    have hlp : t.lp = s.lp := exec_kept h hc (p := .link) hlink
    have hcu : t.cu = s.cu := exec_kept h hc (p := .capture) hcapture
    exact workConserving_congr (by rw [hlp]) (State.frameDue_congr
      (exec_kept h hc (p := .assembler) hassembler) (exec_kept h hc (p := .loader) hloader)
      (by rw [hcu]) (exec_kept h hc (p := .audioReady) hready)) hs
  cases c with
  | resetRelease =>
    rcases resetRelease_cases h with rfl | ⟨_, rfl⟩
    · exact hs
    · exact hs
  | loadingComplete img =>
    rcases loadingComplete_cases h with rfl | ⟨hloading, f, rfl⟩ | ⟨_, _, _, rfl⟩
    · exact hs
    · obtain ⟨hlp, _⟩ := hinv.atRest.1 (by simp [State.running, hloading])
      have hidle : (s.halt f).lp.access = .idle := by
        change s.lp.access = .idle
        rw [hlp]
        rfl
      exact ⟨fun _ => State.frameDue_of_not_running nofun,
        fun hdefer => by rw [hidle] at hdefer; cases hdefer⟩
    · exact State.linkReact_work _
  | frameArrival bytes good =>
    rcases frameArrival_cases h with rfl | ⟨_, rfl⟩
    · exact hs
    · exact State.linkReact_work _
  | mediumBusy => rcases mediumBusy_cases h with rfl | ⟨_, rfl⟩ <;> exact hs
  | mediumIdle => rcases mediumIdle_cases h with rfl | ⟨_, rfl⟩ <;> exact hs
  | quietGapReached =>
    rcases quietGapReached_cases h with rfl | ⟨m, _, ⟨_, rfl⟩ | ⟨_, rfl⟩⟩
    · exact hs
    · exact State.ask_work _
    · exact hs
  | backoffSlotEnd =>
    rcases backoffSlotEnd_cases h with rfl | ⟨e, _, _, ⟨_, rfl⟩ | ⟨_, rfl⟩⟩
    · exact hs
    · exact State.ask_work _
    · exact hs
  | sendDone =>
    rcases sendDone_cases h with rfl | ⟨_, rfl | rfl⟩
    · exact hs
    · exact workConserving_of_sent (.inr rfl)
    · exact State.linkReact_work _
  | turnaroundExpiry =>
    rcases turnaroundExpiry_cases h with rfl | ⟨d, _, rfl⟩
    · exact hs
    · exact State.linkReact_work _
  | blockBoundary mic call =>
    rcases blockBoundary_cases h with rfl | ⟨_, ⟨_, rfl⟩ | ⟨_, rfl⟩⟩
    · exact hs
    · exact hs
    · exact State.linkReact_work _
  | audioReadyFall =>
    rcases audioReadyFall_cases h with rfl | ⟨hrun, rfl⟩ | ⟨_, rfl⟩
    · exact hs
    · have hnot : ¬s.isolate.running := hrun
      exact workConserving_congr (s := s) rfl ((State.frameDue_of_not_running hnot).trans
        (State.frameDue_of_not_running hrun).symm) hs
    · exact State.linkReact_work _
  | audioReadyRise =>
    rcases audioReadyRise_cases h with rfl | ⟨_, ⟨hrun, rfl⟩ | ⟨_, rfl⟩⟩
    · exact hs
    · have hnot : ¬s.rejoin.running := by simpa [State.rejoin, State.running] using hrun
      exact workConserving_congr (by simp [State.rejoin]) ((State.frameDue_of_not_running hnot).trans
        (State.frameDue_of_not_running hrun).symm) hs
    · exact State.linkReact_work _
  | join =>
    rcases join_cases h with rfl | ⟨_, ⟨_, rfl⟩ | ⟨_, rfl⟩⟩
    · exact hs
    · exact hs
    · exact State.linkReact_work _
  | leave =>
    rcases leave_cases h with rfl | ⟨_, rfl⟩
    · exact hs
    · exact State.linkReact_work _
  | callOff =>
    rcases callOff_cases h with rfl | ⟨_, rfl⟩
    · exact hs
    · exact State.linkReact_work _
  | req k =>
    rcases req_cases h with rfl | ⟨_, ⟨_, rfl⟩ | ⟨_, rfl⟩⟩
    · exact hs
    · exact State.linkReact_work _
    · exact State.linkReact_work _
  | joinWindowExpiry =>
    rcases joinWindowExpiry_cases h with rfl | ⟨e, _, rfl⟩
    · exact hs
    · exact State.linkReact_work _
  | hailTimerExpiry =>
    rcases hailTimerExpiry_cases h with rfl | ⟨e, _, rfl⟩
    · exact hs
    · exact State.linkReact_work _
  | presenceTimerExpiry =>
    rcases presenceTimerExpiry_cases h with rfl | ⟨e, _, rfl⟩
    · exact hs
    · exact State.linkReact_work _
  | presencePromotion =>
    rcases presencePromotion_cases h with rfl | ⟨e, htimer, rfl⟩
    · exact hs
    · exact workConserving_congr (s := s) rfl (State.frameDue_promoted hinv.due htimer) hs
  | peerLossExpiry n =>
    rcases peerLossExpiry_cases h with rfl | ⟨p, e, _, _, rfl⟩
    · exact hs
    · refine workConserving_congr (by simp [State.peerLost]) (State.frameDue_congr ?_
        (by simp [State.peerLost]) (by simp [State.peerLost]) (by simp [State.peerLost])) hs
      exact State.notice_sa (s := s.peerLost n e) (fun hactive =>
        State.lowerClaimer_peerLost (hinv.lowerClaimer_of_active hactive) n e) n _
  | lostRemovalExpiry n =>
    rcases lostRemovalExpiry_cases h with rfl | ⟨p, e, _, hlost, rfl⟩
    · exact hs
    · have hseen : p.seen = true := Peer.seen_of_not_hailed (by simp [hlost])
      refine workConserving_congr (by simp) (State.frameDue_congr ?_ (by simp) (by simp) (by simp)) hs
      rw [State.removePeer, if_pos hseen]
      have hfewer : (erasePeer p.station s.ru.peers).Sublist s.ru.peers := List.filter_sublist
      exact State.notice_sa (s := (s.catchUp e).without p.station) (fun hactive =>
        claimBelow_sublist hfewer (hinv.lowerClaimer_of_active hactive)) _ _
  | settleExpiry =>
    rcases settleExpiry_cases h with rfl | ⟨e, _, ⟨_, rfl⟩ | ⟨_, rfl⟩⟩
    · exact hs
    · exact State.linkReact_work _
    · exact State.linkReact_work _
  | _ => exact absurd ⟨rfl, rfl, rfl, rfl, rfl⟩ hkept

/-- Settles O58, block by block of the sending side, each command by the parts that it may change. -/
theorem stepKeepsTheSendingSide : Obligations.StepKeepsTheSendingSide := by
  intro s t hinv h
  rcases step_cases hinv h with rfl | ⟨c, r, hr, hexec⟩
  · rw [State.tick]
    split <;> exact ⟨hinv.capture, hinv.role, hinv.sendQueue, hinv.due, hinv.link, hinv.work⟩
  · exact ⟨exec_captureOk hr hexec, exec_roleOk hr.role hexec, exec_sendQueueOk hr.sendQueue hexec,
      exec_dueOk hr hexec, exec_linkOk hr.link hexec, exec_workConserving hr hexec⟩

end Sys2Proof.Machine
end

section
/-! PROOFS. Every step keeps the settings, the RESET values before RUNNING and the peer table
(chapters 2 and 9). -/

namespace Sys2Proof.Machine

/-! ## The peer table (R19, R20) -/

section
variable {s t : State}

/-- An entry without what no bound of the table speaks of: the contents of its queue, its hail mark,
its last-seen toggles. -/
def Peer.fixed (p : Peer) : Peer :=
  { p with queue := p.queue.map fun _ => RxQueue.cleared QueueCounts.zero,
           hailMark := false, lastSeen := none }

theorem map_fixed_unseen (ps : List Peer) : (ps.map Peer.unseen).map Peer.fixed = ps.map Peer.fixed :=
  List.map_map

theorem Peer.Ok.of_fixed {own : Nat} {p q : Peer} (h : q.fixed = p.fixed) (hp : p.Ok own) : q.Ok own := by
  have fixed (r : Peer) : r.fixed.Ok own ↔ r.Ok own := by
    have hqueue : r.fixed.queue.isSome = r.queue.isSome := Option.isSome_map
    rw [Peer.Ok, hqueue]
    rfl
  rw [← fixed, h, fixed]
  exact hp

/-- A change of queues, hail marks and toggles keeps the table. -/
theorem State.RosterOk.of_fixed (h : s.RosterOk) (hown : t.own = s.own)
    (hdeparted : t.ru.departed = s.ru.departed) (hfull : t.ru.rosterFull = s.ru.rosterFull)
    (hmismatch : t.ru.codeMismatch = s.ru.codeMismatch)
    (hpeers : t.ru.peers.map Peer.fixed = s.ru.peers.map Peer.fixed) : t.RosterOk := by
  obtain ⟨hlen, hsorted, hok, hfew, hdistinct, hgone, hcounts⟩ := h
  have sorted (ps : List Peer) : ps.Pairwise (fun p q => p.station < q.station) ↔
      (ps.map Peer.fixed).Pairwise (fun p q => p.station < q.station) := by
    rw [List.pairwise_map]
    rfl
  have old {p : Peer} (hp : p ∈ t.ru.peers) : ∃ q ∈ s.ru.peers, q.fixed = p.fixed :=
    List.mem_map.1 (hpeers ▸ List.mem_map_of_mem hp)
  have hsame := congrArg List.length hpeers
  rw [List.length_map, List.length_map] at hsame
  refine ⟨hsame ▸ hlen, (sorted _).2 (hpeers ▸ (sorted _).1 hsorted), fun p hp => ?_,
    hdeparted ▸ hfew, hdeparted ▸ hdistinct, fun d hd p hp => ?_, ?_⟩
  · obtain ⟨q, hq, hqp⟩ := old hp
    exact hown ▸ (hok q hq).of_fixed hqp.symm
  · obtain ⟨q, hq, hqp⟩ := old hp
    have hstation : q.fixed.station = p.fixed.station := by rw [hqp]
    exact fun hp => hgone d (hdeparted ▸ hd) q hq (hstation.trans hp)
  · rw [hfull, hmismatch]
    exact hcounts

/-- What role, bridge and requests do to the table keeps it. -/
theorem State.Keeps.rosterOk (hkeeps : s.Keeps t) (h : s.RosterOk) : t.RosterOk := by
  obtain ⟨hdeparted, _, hfull, hmismatch⟩ := hkeeps.rest_of_ru
  refine h.of_fixed (congrArg (fun l => l.settings.station) hkeeps.sl) hdeparted hfull hmismatch ?_
  rw [← map_fixed_unseen, hkeeps.peers, map_fixed_unseen]

/-- Without entries there is nothing to keep but the counts. -/
theorem rosterOk_of_empty (hpeers : t.ru.peers = []) (hdeparted : t.ru.departed = [])
    (hfull : t.ru.rosterFull ≤ 65535) (hmismatch : t.ru.codeMismatch ≤ 65535) : t.RosterOk := by
  rw [State.RosterOk, hpeers, hdeparted]
  have absent {α : Type} {P : α → Prop} : ∀ x ∈ ([] : List α), P x :=
    fun _ hx => absurd hx List.not_mem_nil
  exact ⟨Nat.zero_le _, .nil, absent, Nat.zero_le _, .nil, absent, hfull, hmismatch⟩

/-- Fewer entries and fewer departed stations. -/
theorem State.RosterOk.of_sublist (h : s.RosterOk) (hown : t.own = s.own)
    (hpeers : t.ru.peers.Sublist s.ru.peers) (hdeparted : t.ru.departed.Sublist s.ru.departed)
    (hfull : t.ru.rosterFull = s.ru.rosterFull)
    (hmismatch : t.ru.codeMismatch = s.ru.codeMismatch) : t.RosterOk := by
  obtain ⟨hlen, hsorted, hok, hfew, hdistinct, hgone, hcounts⟩ := h
  refine ⟨hpeers.length_le.trans hlen, hsorted.sublist hpeers, fun p hp =>
    hown ▸ hok p (hpeers.subset hp), hdeparted.length_le.trans hfew, hdistinct.sublist hdeparted,
    fun d hd p hp => hgone d (hdeparted.subset hd) p (hpeers.subset hp), ?_⟩
  rw [hfull, hmismatch]
  exact hcounts

/-- A change of the entries of one station. -/
theorem State.RosterOk.mapPeer {n : Nat} {f : Peer → Peer} (h : s.RosterOk)
    (hstation : ∀ p, (f p).station = p.station)
    (hf : ∀ p, s.peer n = some p → p.Ok s.own → (f p).Ok s.own) : (s.mapPeer n f).RosterOk := by
  obtain ⟨hlen, hsorted, hok, hfew, hdistinct, hgone, hcounts⟩ := h
  have station (p : Peer) : (if p.station = n then f p else p).station = p.station := by
    split
    · exact hstation p
    · rfl
  refine ⟨by simpa [State.mapPeer, updatePeer] using hlen, ?_, fun q hq => ?_, hfew, hdistinct,
    fun d hd q hq => ?_, hcounts⟩
  · refine List.pairwise_map.2 (hsorted.imp fun {a b} hab => ?_)
    rw [station, station]
    exact hab
  · obtain ⟨p, hp, rfl⟩ := List.mem_map.1 hq
    split
    · next hn => exact hf p (hn ▸ findPeer_of_mem hsorted hp) (hok p hp)
    · exact hok p hp
  · obtain ⟨p, hp, rfl⟩ := List.mem_map.1 hq
    rw [station]
    exact hgone d hd p hp

/-- A new entry for a station without one, in a table with room. -/
theorem State.RosterOk.addPeer {p : Peer} (h : s.RosterOk) (hroom : s.ru.peers.length < 9)
    (hnone : s.peer p.station = none) (hdeparted : ∀ d ∈ s.ru.departed, d.station ≠ p.station)
    (hp : p.Ok s.own) : (s.addPeer p).RosterOk := by
  obtain ⟨_, hsorted, hok, hfew, hdistinct, hgone, hcounts⟩ := h
  refine ⟨(length_insertPeer p s.ru.peers).trans_le hroom,
    pairwise_insertPeer hsorted (findPeer_none.1 hnone), fun q hq => ?_, hfew, hdistinct,
    fun d hd q hq => ?_, hcounts⟩
  · rcases mem_insertPeer.1 hq with rfl | hq
    · exact hp
    · exact hok q hq
  · rcases mem_insertPeer.1 hq with rfl | hq
    · exact (hdeparted d hd).symm
    · exact hgone d hd q hq

theorem State.RosterOk.undepart (h : s.RosterOk) (n : Nat) : (s.undepart n).RosterOk :=
  h.of_sublist rfl (.refl _) List.filter_sublist rfl rfl

/-- A station without an entry joins the departed list, which holds at most 4 (R40). -/
theorem State.RosterOk.depart (h : s.RosterOk) {n : Nat} (hnone : s.peer n = none) :
    (s.depart n).RosterOk := by
  obtain ⟨hlen, hsorted, hok, hfew, hdistinct, hgone, hcounts⟩ := h
  set others := s.ru.departed.filter (fun d => d.station ≠ n) with hothers
  set room := if departedLimit ≤ others.length then others.drop 1 else others with hroom
  have hsub : room.Sublist others := by
    rw [hroom]
    split
    · exact List.drop_sublist _ _
    · exact .refl _
  have hold : room.Sublist s.ru.departed := hsub.trans List.filter_sublist
  have hothersLen : others.length ≤ 4 := (List.filter_sublist.length_le).trans hfew
  have hroomLen : room.length ≤ 3 := by
    rw [hroom]
    split
    · rw [List.length_drop]
      omega
    · next hfewer => exact Nat.le_of_lt_succ (Nat.lt_of_not_le hfewer)
  refine ⟨hlen, hsorted, hok, ?_, ?_, fun d hd p hp => ?_, hcounts⟩
  · change (room ++ [_]).length ≤ 4
    rw [List.length_append, List.length_singleton]
    omega
  · refine List.pairwise_append.2 ⟨hdistinct.sublist hold, List.pairwise_singleton _ _,
      fun d hd e he => ?_⟩
    obtain rfl := List.mem_singleton.1 he
    exact of_decide_eq_true (List.mem_filter.1 (hsub.subset hd)).2
  · rcases List.mem_append.1 hd with hd | hd
    · exact hgone d (hold.subset hd) p hp
    · obtain rfl := List.mem_singleton.1 hd
      exact findPeer_none.1 hnone p hp

end

/-! ## An arrival (R21) -/

/-- The header of a frame that passes the receive filter, as far as an entry keeps it. -/
structure Frame.SenderOk (own : Nat) (f : Frame) : Prop where
  station : stationNumber f.header.station
  other : f.header.station ≠ own
  wearer : 1 ≤ f.header.wearer ∧ f.header.wearer ≤ 15
  micScore : f.header.sender.micScore ≤ 255

section
variable {s : State} {f : Frame}

theorem newPeer_ok (hf : f.SenderOk s.own) (mark : Bool) :
    (newPeer s.own s.now f .hailed mark).Ok s.own :=
  ⟨hf.station, hf.other, hf.wearer, rfl, rfl, hf.micScore, ⟨le_rfl, Nat.le_add_left 1 65534⟩,
    Nat.zero_le _⟩

theorem newPeer_voiced_ok (hf : f.SenderOk s.own) (mark : Bool) :
    (newPeer s.own s.now f .admitted mark).voiced.Ok s.own :=
  ⟨hf.station, hf.other, hf.wearer, rfl, rfl, hf.micScore, ⟨le_rfl, Nat.le_add_left 1 65534⟩,
    Nat.zero_le _⟩

/-- A frame counted and taken keeps an entry's bounds. -/
theorem Peer.Ok.countFrame {own : Nat} {p : Peer} (h : p.Ok own) : p.countFrame.Ok own := by
  obtain ⟨hstation, hother, hwearer, hqueue, hlost, hscore, ⟨hframes, _⟩, hmissed⟩ := h
  exact ⟨hstation, hother, hwearer, hqueue, hlost, hscore,
    ⟨Nat.le_min.2 ⟨by decide, Nat.le_add_left _ _⟩, min_le_left _ _⟩, hmissed⟩

theorem Peer.Ok.takeFrame {p : Peer} (h : p.Ok s.own) (hf : f.SenderOk s.own) :
    (p.takeFrame s.own s.now f).Ok s.own := by
  obtain ⟨hstation, hother, _, hqueue, hlost, _, hcounts⟩ := h
  exact ⟨hstation, hother, hf.wearer, hqueue, hlost, hf.micScore, hcounts⟩

/-- A HAILED entry that becomes ADMITTED has its queue with it. -/
theorem Peer.Ok.admitted {own : Nat} {p : Peer} (h : p.Ok own) (hhailed : p.state = .hailed) :
    ({ p with state := .admitted } : Peer).voiced.Ok own := by
  obtain ⟨hstation, hother, hwearer, _, hlost, hrest⟩ := h
  rw [hhailed] at hlost
  exact ⟨hstation, hother, hwearer, rfl, hlost, hrest⟩

/-- A refreshed entry of an ADMITTED or LOST peer is an ADMITTED peer's (R22). -/
theorem Peer.Ok.refreshed {p : Peer} (h : p.Ok s.own) (hseen : p.state ≠ .hailed)
    (hf : f.SenderOk s.own) : (p.refreshed s f).Ok s.own := by
  obtain ⟨hframes, hmissed⟩ := Peer.refreshed_counts (p := p) h.2.2.2.2.2.2.2 s f
  obtain ⟨hstation, hother, _, hqueue, _, _, _⟩ := h
  refine ⟨hstation, hother, hf.wearer, ?_, rfl, hf.micScore, ?_, ?_⟩
  · exact hqueue.trans (Peer.seen_of_not_hailed hseen)
  · rw [hframes]
    exact ⟨Nat.le_min.2 ⟨by decide, Nat.le_add_left _ _⟩, min_le_left _ _⟩
  · rw [hmissed]
    split <;> exact min_le_left _ _

/-- An admission gives the sender's entry its queue and hands its header on (R32, R33). -/
theorem State.admission_rosterOk (h : (s.mapPeer f.header.station Peer.voiced).RosterOk) :
    (s.admission f).RosterOk := by
  have hvoiced : ((s.setFlag .peerJoined).mapPeer f.header.station Peer.voiced).askPresence.RosterOk := h
  have handed (u : State) (hu : u.RosterOk) : (u.handHeader f false).RosterOk :=
    (State.Keeps.handHeader u f false).rosterOk hu
  unfold State.admission
  dsimp only
  split
  · exact handed _ ((State.Keeps.baseline _ _ _).rosterOk hvoiced)
  · exact handed _ hvoiced

theorem State.tableFull_rosterOk (h : s.RosterOk) : s.tableFull.RosterOk := by
  obtain ⟨hlen, hsorted, hok, hfew, hdistinct, hgone, _, hmismatch⟩ := h
  exact ⟨hlen, hsorted, hok, hfew, hdistinct, hgone, min_le_left _ _, hmismatch⟩

theorem updatePeer_insertPeer {n : Nat} {g : Peer → Peer} {p : Peer} {ps : List Peer}
    (hg : (g p).station = p.station) (hp : p.station = n) (hps : ∀ q ∈ ps, q.station ≠ n) :
    updatePeer n g (insertPeer p ps) = insertPeer (g p) ps := by
  induction ps with
  | nil => simp [insertPeer, updatePeer, hp]
  | cons q qs ih =>
    have hkept : updatePeer n g (q :: qs) = q :: qs :=
      (List.map_congr_left fun r hr => if_neg (hps r hr)).trans (List.map_id _)
    have ih := ih fun r hr => hps r (List.mem_cons_of_mem _ hr)
    unfold insertPeer
    rw [hg]
    split
    · rw [updatePeer, List.map_cons, if_pos hp, ← updatePeer, hkept]
    · rw [updatePeer, List.map_cons, if_neg (hps q (.head _)), ← updatePeer, ih]

/-- A newcomer that is admitted at once (R28, R30). -/
theorem State.admission_new_rosterOk (h : s.RosterOk) (hf : f.SenderOk s.own)
    (hroom : s.ru.peers.length < 9) (hnone : s.peer f.header.station = none)
    (hdeparted : ∀ d ∈ s.ru.departed, d.station ≠ f.header.station) (mark : Bool) :
    ((s.addPeer (newPeer s.own s.now f .admitted mark)).admission f).RosterOk := by
  refine State.admission_rosterOk ?_
  have hfree : ∀ q ∈ s.ru.peers, q.station ≠ f.header.station := findPeer_none.1 hnone
  have hvoiced : (s.addPeer (newPeer s.own s.now f .admitted mark)).mapPeer f.header.station
      Peer.voiced = s.addPeer (newPeer s.own s.now f .admitted mark).voiced :=
    congrArg (fun ps => { s with ru := { s.ru with peers := ps } })
      (updatePeer_insertPeer (g := Peer.voiced) (p := newPeer s.own s.now f .admitted mark) rfl rfl
        hfree)
  rw [hvoiced]
  exact h.addPeer hroom hnone hdeparted (newPeer_voiced_ok hf mark)

/-- A HAILED entry that is admitted (R28, R30). -/
theorem State.admission_hailed_rosterOk (h : s.RosterOk) {g : Peer → Peer}
    (hstation : ∀ p, (g p).station = p.station)
    (hg : ∀ p, s.peer f.header.station = some p → p.Ok s.own → (g p).voiced.Ok s.own) :
    ((s.mapPeer f.header.station g).admission f).RosterOk := by
  refine State.admission_rosterOk ?_
  have hvoiced : (s.mapPeer f.header.station g).mapPeer f.header.station Peer.voiced =
      s.mapPeer f.header.station (Peer.voiced ∘ g) :=
    congrArg (fun ps => { s with ru := { s.ru with peers := ps } })
      (updatePeer_updatePeer hstation Peer.voiced _)
  rw [hvoiced]
  exact h.mapPeer hstation hg

theorem State.introduceHailed_rosterOk (h : s.RosterOk) (hf : f.SenderOk s.own)
    (hhailed : ∀ p, s.peer f.header.station = some p → p.state = .hailed) (counted : Bool) :
    (s.introduceHailed f counted).RosterOk := by
  unfold State.introduceHailed
  dsimp only
  split
  · cases counted with
    | true =>
      exact State.admission_hailed_rosterOk h (fun _ => rfl)
        fun p hp hok => (hok.takeFrame hf).admitted (hhailed p hp)
    | false =>
      exact State.admission_hailed_rosterOk h (fun _ => rfl)
        fun p hp hok => (hok.countFrame.takeFrame hf).admitted (hhailed p hp)
  · exact h

theorem State.introduceNew_rosterOk (h : s.RosterOk) (hf : f.SenderOk s.own)
    (hnone : s.peer f.header.station = none) : (s.introduceNew f).RosterOk := by
  unfold State.introduceNew
  split
  · next hintro =>
    split
    · exact State.tableFull_rosterOk h
    · next hroom =>
      obtain ⟨_, hdeparted⟩ := (s.introduced_iff _).1 hintro
      exact State.admission_new_rosterOk h hf (by simpa [s.isFull_iff] using hroom) hnone hdeparted _
  · exact h

theorem State.pairNew_rosterOk (h : s.RosterOk) (hf : f.SenderOk s.own)
    (hnone : s.peer f.header.station = none) (heard : List Nat) : (s.pairNew f heard).RosterOk := by
  unfold State.pairNew
  split
  · exact State.tableFull_rosterOk h
  · next hfull =>
    have hroom : s.ru.peers.length < 9 := by simpa [s.isFull_iff] using hfull
    have hofflist : ∀ d ∈ (s.undepart f.header.station).ru.departed, d.station ≠ f.header.station :=
      fun d hd => of_decide_eq_true (List.mem_filter.1 hd).2
    dsimp only
    split
    · exact State.admission_new_rosterOk (s := s.undepart f.header.station) (h.undepart _) hf hroom
        hnone hofflist true
    · have hadded : ((s.undepart f.header.station).addPeer
          (newPeer s.own s.now f .hailed true)).RosterOk :=
        (h.undepart _).addPeer (p := newPeer s.own s.now f .hailed true) hroom hnone hofflist
          (newPeer_ok hf true)
      refine State.introduceHailed_rosterOk hadded hf (fun p hp => ?_) true
      have hfound := findPeer_insertPeer_eq (p := newPeer s.own s.now f .hailed true) rfl
        (findPeer_none.1 hnone)
      obtain rfl := Option.some.inj (hfound.symm.trans hp)
      rfl

theorem State.pairHailed_rosterOk (h : s.RosterOk) (hf : f.SenderOk s.own)
    (hhailed : ∀ p, s.peer f.header.station = some p → p.state = .hailed) (heard : List Nat) :
    (s.pairHailed f heard).RosterOk := by
  have hrenewed : ((s.undepart f.header.station).mapPeer f.header.station
      (fun p => p.renewed s.own s.now f)).RosterOk :=
    (h.undepart _).mapPeer (fun _ => rfl) fun p _ hok =>
      (hok.countFrame.takeFrame hf).of_fixed rfl
  have hstill : ∀ p, ((s.undepart f.header.station).mapPeer f.header.station
      (fun p => p.renewed s.own s.now f)).peer f.header.station = some p → p.state = .hailed := by
    intro p hp
    have hfound := findPeer_updatePeer_eq (n := f.header.station)
      (fun p : Peer => p.renewed s.own s.now f) (fun _ => rfl) s.ru.peers
    obtain ⟨q, hq, rfl⟩ := Option.map_eq_some_iff.1 (hfound.symm.trans hp)
    exact hhailed q hq
  unfold State.pairHailed
  dsimp only
  split
  · exact State.admission_hailed_rosterOk hrenewed (fun _ => rfl)
      fun p hp hok => hok.admitted (hstill p hp)
  · exact State.introduceHailed_rosterOk hrenewed hf hstill true

/-- A peer's frame refreshes its entry; the sections reach the contents of its queue (R22, R78). -/
theorem State.placeVoice_rosterOk (h : s.RosterOk) (n : Nat) (x : TalkSection) :
    (s.placeVoice n x).RosterOk := by
  cases hq : (s.peer n).bind (·.queue) with
  | none =>
    rw [State.placeVoice_of_none hq]
    exact h
  | some q =>
    rw [State.placeVoice_of_queue hq]
    have placed : (s.mapPeer n (fun p => { p with
        queue := some (q.placeAll s.cfg.depth (numberBlocks x.first x.blocks)).1 })).RosterOk := by
      refine h.mapPeer (fun _ => rfl) fun p hp hok => hok.of_fixed ?_
      rw [hp, Option.bind_some] at hq
      simp [Peer.fixed, hq]
    unfold State.setFlagIf
    split
    · exact placed
    · exact placed

theorem State.handSections_rosterOk (h : s.RosterOk) (f : Frame) : (s.handSections f).RosterOk := by
  have call (u : State) (hu : u.RosterOk) (n : Nat) (x : TalkSection) : (u.placeCall n x).RosterOk := by
    unfold State.placeCall State.setFlagIf
    split
    · dsimp only
      split
      · exact hu
      · exact hu
    · exact hu
  unfold State.handSections
  split
  · exact call _ (State.placeVoice_rosterOk h _ _) _ _
  · exact h
  · exact h
  · exact h

theorem State.refreshPeer_rosterOk (h : s.RosterOk) (hf : f.SenderOk s.own) {p : Peer}
    (hp : s.peer f.header.station = some p) (hseen : p.state ≠ .hailed) :
    (s.refreshPeer f p).RosterOk := by
  have hrefreshed : (s.mapPeer f.header.station (fun p => p.refreshed s f)).RosterOk :=
    h.mapPeer (fun _ => rfl) fun q hq hok => by
      obtain rfl := Option.some.inj (hp.symm.trans hq)
      exact hok.refreshed hseen hf
  exact State.handSections_rosterOk ((State.Keeps.handHeader _ f (s.isMate p)).rosterOk hrefreshed) f

/-- An entry removed, with its notice when it had one (R38). -/
theorem State.removePeer_rosterOk (h : s.RosterOk) (p : Peer) :
    (s.removePeer p).RosterOk ∧ (s.removePeer p).peer p.station = none := by
  have herased : ({ s with ru := { s.ru with peers := erasePeer p.station s.ru.peers } } :
      State).RosterOk := h.of_sublist rfl List.filter_sublist (.refl _) rfl rfl
  have hgone : ({ s with ru := { s.ru with peers := erasePeer p.station s.ru.peers } } :
      State).peer p.station = none := findPeer_erasePeer_eq _ _
  unfold State.removePeer
  dsimp only
  split
  · exact ⟨(State.Keeps.notice _ _ _).rosterOk herased, (State.Keeps.notice _ _ _).peer_eq_none hgone⟩
  · exact ⟨herased, hgone⟩

theorem State.leaveFrame_rosterOk (h : s.RosterOk) (n : Nat) : (s.leaveFrame n).RosterOk := by
  unfold State.leaveFrame
  cases hp : s.peer n with
  | none => exact h.depart hp
  | some p =>
    obtain ⟨hremoved, hnone⟩ := State.removePeer_rosterOk h p
    rw [(findPeer_some hp).2] at hnone
    refine State.RosterOk.depart (s := (s.removePeer p).setFlagIf p.seen .peerLeft) ?_ ?_
    · unfold State.setFlagIf
      split
      · exact hremoved
      · exact hremoved
    · rw [State.setFlagIf_peer]
      exact hnone

/-- Whatever arrives, the peer table is one (R19). -/
theorem State.takeArrival_rosterOk (h : s.RosterOk) (hf : f.SenderOk s.own) :
    (s.takeArrival f).RosterOk := by
  by_cases hkind : f.header.kind = .leave
  · rw [State.takeArrival_of_leave hkind]
    exact State.leaveFrame_rosterOk h _
  by_cases hcode : s.OwnCode f
  · have pairing := em (s.ru.window.isSome = true ∧ ∃ code heard, f.body = .hail code heard)
    cases hp : s.peer f.header.station with
    | none =>
      obtain ⟨hhail, hother⟩ := State.takeArrival_of_none hkind hcode hp
      rcases pairing with ⟨hopen, code, heard, hbody⟩ | hpair
      · rw [hhail code heard hbody hopen]
        exact State.pairNew_rosterOk h hf hp heard
      · rw [hother hpair]
        exact State.introduceNew_rosterOk h hf hp
    | some p =>
      by_cases hstate : p.state = .hailed
      · obtain ⟨hhail, hother⟩ := State.takeArrival_of_hailed hkind hcode hp hstate
        have hhailed : ∀ q, s.peer f.header.station = some q → q.state = .hailed :=
          fun q hq => Option.some.inj (hp.symm.trans hq) ▸ hstate
        rcases pairing with ⟨hopen, code, heard, hbody⟩ | hpair
        · rw [hhail code heard hbody hopen]
          exact State.pairHailed_rosterOk h hf hhailed heard
        · rw [hother hpair]
          exact State.introduceHailed_rosterOk h hf hhailed false
      · rw [State.takeArrival_of_seen hkind hcode hp hstate]
        exact State.refreshPeer_rosterOk h hf hp hstate
  · rw [State.takeArrival_of_other_code hkind hcode]
    obtain ⟨hlen, hsorted, hok, hfew, hdistinct, hgone, hfull, _⟩ := h
    exact ⟨hlen, hsorted, hok, hfew, hdistinct, hgone, hfull, min_le_left _ _⟩

end

end Sys2Proof.Machine
end

section
/-! PROOFS. Every command keeps the settings, the RESET values before RUNNING and the peer table. -/

namespace Sys2Proof.Machine

/-! ## Settings and rest (R180, R184) -/

section
variable {c : Instr} {s t : State}

/-- Every command keeps the settings in range: they are handed out with an image that passes. -/
theorem exec_settingsOk (hs : s.SettingsOk) (h : exec c s = .next t) : t.SettingsOk := by
  by_cases hc : c = .reset
  · subst hc
    rw [reset_cases h]
    exact nofun
  by_cases hloader : (partsOf c).contains .loader = false
  · have hsl : t.sl = s.sl := exec_kept h hc (p := .loader) hloader
    rw [State.SettingsOk, State.running, State.cfg, hsl]
    exact hs
  · cases c with
    | resetRelease => rcases resetRelease_cases h with rfl | ⟨_, rfl⟩ <;> exact hs
    | loadingComplete img =>
      rcases loadingComplete_cases h with rfl | ⟨_, f, rfl⟩ | ⟨_, _, hfault, rfl⟩
      · exact hs
      · exact nofun
      · have hsl : (s.startRunning img).linkReact.sl = (s.startRunning img).sl := by simp
        have hsettings : (s.startRunning img).sl.settings = imageSettings img := by
          rw [State.startRunning_eq]
        intro _
        rw [State.cfg, hsl, hsettings]
        exact imageSettings_inRange (imagePasses_of_no_fault hfault)
    | _ => exact absurd rfl hloader

/-- Every block but the loader and the Control Line holds its RESET value (R180). -/
def State.Resting (s : State) : Prop :=
  s.lp = { LinkPort.reset with draws := s.lp.draws } ∧ s.sa = SendAssembler.reset ∧
  s.cu = CaptureUnit.reset ∧ s.ru = RosterUnit.reset ∧ s.rq = Downlink.reset ∧
  s.me = MixEngine.reset ∧ s.bu = BridgeUnit.reset ∧ s.cq = CallRequest.reset ∧
  s.wl.stepDown = false ∧ s.wl.ownMute = false

/-- Nobody stands in the table of a resting part. -/
theorem State.Resting.peer (h : s.Resting) (n : Nat) : s.peer n = none := by
  obtain ⟨_, _, _, hru, _⟩ := h
  rw [State.peer, hru]
  rfl

/-- Role and readiness are not at rest before RUNNING: isolation is followed (R56). -/
theorem State.evaluateRole_of_resting (h : s.Resting) :
    ∃ r, s.evaluateRole = { s with wl := { s.wl with role := r } } := by
  obtain ⟨_, _, _, hru, _⟩ := h
  have hnone : s.ru.peers = [] := by
    rw [hru]
    rfl
  exact ⟨_, State.evaluateRole_of_no_peers hnone⟩

/-- Before RUNNING every command but the one that starts it leaves the part at rest. -/
theorem exec_resting (hrest : s.Resting) (hrun : ¬s.running) (h : exec c s = .next t)
    (hc : ∀ img, c = .loadingComplete img → ¬t.running) : t.Resting := by
  obtain ⟨hlp, hsa, hcu, hru, hrq, hme, hbu, hcq, hwl⟩ := id hrest
  have idle : s.lp.access = .idle := by
    rw [hlp]
    rfl
  have discarded {P : Prop} (h : t = s ∨ (s.running ∧ P)) : t.Resting := by
    rcases h with rfl | ⟨hrunning, _⟩
    · exact hrest
    · exact absurd hrunning hrun
  have stopped {α : Type} {P : α → Prop} (h : t = s ∨ ∃ a, P a) (hno : ∀ a, ¬P a) : t.Resting := by
    rcases h with rfl | ⟨a, ha⟩
    · exact hrest
    · exact absurd ha (hno a)
  have absent {n : Nat} {p : Peer} (hp : s.peer n = some p) : False := by
    rw [hrest.peer] at hp
    cases hp
  cases c with
  | reset =>
    rw [reset_cases h]
    exact ⟨rfl, rfl, rfl, rfl, rfl, rfl, rfl, rfl, rfl, rfl⟩
  | resetRelease => rcases resetRelease_cases h with rfl | ⟨_, rfl⟩ <;> exact hrest
  | loadingComplete img =>
    rcases loadingComplete_cases h with rfl | ⟨_, f, rfl⟩ | ⟨_, _, _, rfl⟩
    · exact hrest
    · exact hrest
    · have hsl : (s.startRunning img).linkReact.sl = (s.startRunning img).sl := by simp
      refine absurd ?_ (hc img rfl)
      rw [State.running, hsl, State.startRunning_eq]
  | frameArrival bytes good =>
    refine discarded ((frameArrival_cases h).imp_right fun ⟨hlistens, ht⟩ => ⟨?_, ht⟩)
    simp only [State.linkListens, Bool.and_eq_true, decide_eq_true_eq] at hlistens
    exact hlistens.1
  | mediumBusy =>
    rcases mediumBusy_cases h with rfl | ⟨hrunning, _⟩
    · exact hrest
    · exact absurd hrunning hrun
  | mediumIdle =>
    rcases mediumIdle_cases h with rfl | ⟨hrunning, _⟩
    · exact hrest
    · exact absurd hrunning hrun
  | quietGapReached =>
    exact stopped (quietGapReached_cases h) fun _ ⟨hdefer, _⟩ => by simp [idle] at hdefer
  | backoffSlotEnd =>
    exact stopped (backoffSlotEnd_cases h) fun _ ⟨hdefer, _⟩ => by simp [idle] at hdefer
  | sendDone =>
    rcases sendDone_cases h with rfl | ⟨hsending, _⟩
    · exact hrest
    · simp [idle] at hsending
  | turnaroundExpiry =>
    exact stopped (turnaroundExpiry_cases h) fun _ ⟨hturn, _⟩ => by simp [idle] at hturn
  | blockBoundary mic call =>
    rcases blockBoundary_cases h with rfl | ⟨_, ⟨_, rfl⟩ | ⟨hrunning, _⟩⟩
    · exact hrest
    · exact hrest
    · exact absurd hrunning hrun
  | audioReadyFall =>
    rcases audioReadyFall_cases h with rfl | ⟨_, rfl⟩ | ⟨hrunning, _⟩
    · exact hrest
    · exact ⟨hlp, hsa, hcu, hru, hrq, hme, hbu, hcq, rfl, hwl.2⟩
    · exact absurd hrunning hrun
  | audioReadyRise =>
    rcases audioReadyRise_cases h with rfl | ⟨_, ⟨_, rfl⟩ | ⟨hrunning, _⟩⟩
    · exact hrest
    · have ready : ({ s with ports := { s.ports with audioReady := true } } : State).Resting := hrest
      obtain ⟨r, hr⟩ := State.evaluateRole_of_resting ready
      rw [State.rejoin, hr]
      exact hrest
    · exact absurd hrunning hrun
  | join => exact discarded (join_cases h)
  | leave => exact discarded (leave_cases h)
  | muteOn => exact discarded (muteOn_cases h)
  | muteOff => exact discarded (muteOff_cases h)
  | callOn => exact discarded (callOn_cases h)
  | callOff => exact discarded (callOff_cases h)
  | req k => exact discarded (req_cases h)
  | done k => exact discarded (done_cases h)
  | unknownCommand b stop => exact discarded (unknownCommand_cases h)
  | status =>
    rcases status_cases h with rfl | ⟨_, rfl⟩
    · exact hrest
    · by_cases hsent : s.cl.sending = none
      · rw [State.formPair_of_none_sent hsent]
        exact hrest
      · rw [State.formPair_of_sending hsent]
        exact hrest
  | reportSent => rcases reportSent_cases h with rfl | ⟨r, _, rfl⟩ <;> exact hrest
  | joinWindowExpiry =>
    exact stopped (joinWindowExpiry_cases h) fun _ ⟨hopen, _⟩ => by simp [hru, RosterUnit.reset] at hopen
  | hailTimerExpiry =>
    exact stopped (hailTimerExpiry_cases h) fun _ ⟨he, _⟩ => by simp [hsa, SendAssembler.reset] at he
  | presenceTimerExpiry =>
    exact stopped (presenceTimerExpiry_cases h) fun _ ⟨he, _⟩ => by
      simp [hsa, SendAssembler.reset] at he
  | presencePromotion =>
    exact stopped (presencePromotion_cases h) fun _ ⟨he, _⟩ => by simp [hsa, SendAssembler.reset] at he
  | peerLossExpiry n => exact stopped (peerLossExpiry_cases h) fun _ ⟨_, hp, _⟩ => absent hp
  | lostRemovalExpiry n => exact stopped (lostRemovalExpiry_cases h) fun _ ⟨_, hp, _⟩ => absent hp
  | hailedExpiry n => exact stopped (hailedExpiry_cases h) fun _ ⟨_, hp, _⟩ => absent hp
  | departedHoldExpiry n =>
    rcases departedHoldExpiry_cases h with rfl | ⟨e, rfl⟩
    · exact hrest
    · refine ⟨hlp, hsa, hcu, ?_, hrq, hme, hbu, hcq, hwl⟩
      simp [State.undepart, State.catchUp, hru, RosterUnit.reset]
  | settleExpiry =>
    exact stopped (settleExpiry_cases h) fun _ ⟨hclaiming, _⟩ => by
      simp [hbu, BridgeUnit.reset] at hclaiming
  | requestTimeout k =>
    have hidle : (s.cq.slots.get k).timer = none := by
      rw [hcq]
      cases k <;> rfl
    rw [eq_of_exec h (exec_requestTimeout_of_idle hidle)]
    exact hrest
  | floorGrantExpiry =>
    exact stopped (floorGrantExpiry_cases h) fun _ ⟨he, _⟩ => by simp [hcq, CallRequest.reset] at he
  | floorViewExpiry =>
    have hview : s.cq.view = none := by
      rw [hcq]
      rfl
    rw [eq_of_exec h (exec_floorViewExpiry_of_none hview)]
    exact hrest

/-- Every command keeps the RESET values before RUNNING. -/
theorem exec_atRest (hs : s.AtRest) (h : exec c s = .next t) : t.AtRest := by
  obtain ⟨hrest, hheld⟩ := id hs
  by_cases hc : c = .reset
  · subst hc
    rw [reset_cases h]
    exact ⟨fun _ => ⟨rfl, rfl, rfl, rfl, rfl, rfl, rfl, rfl, rfl, rfl⟩, fun _ => ⟨rfl, rfl⟩⟩
  by_cases hloader : (partsOf c).contains .loader = false
  · have hsl : t.sl = s.sl := exec_kept h hc (p := .loader) hloader
    have hreset : t.ports.resetHeld = s.ports.resetHeld :=
      exec_kept h hc (p := .resetHeld) (by
      cases c with
      | resetRelease => cases hloader
      | _ => rfl)
    refine ⟨fun hrun => ?_, fun hheldNow => ?_⟩
    · have hstill : ¬s.running := by rwa [State.running, ← hsl]
      exact exec_resting (hrest hstill) hstill h fun _ _ => hrun
    · rw [hsl]
      exact hheld (hreset ▸ hheldNow)
  · cases c with
    | resetRelease =>
      rcases resetRelease_cases h with rfl | ⟨_, rfl⟩
      · exact hs
      · exact ⟨hrest, nofun⟩
    | loadingComplete img =>
      by_cases hreading : s.sl.state = .loading ∧ s.sl.reading = true
      · obtain ⟨hloading, hread⟩ := hreading
        have hstill : ¬s.running := by simp [State.running, hloading]
        have hfree : s.ports.resetHeld = true → False := fun hnow => by
          obtain ⟨_, hnot⟩ := hheld hnow
          rw [hread] at hnot
          cases hnot
        have hreset : t.ports.resetHeld = s.ports.resetHeld :=
          exec_kept h hc (p := .resetHeld) rfl
        exact ⟨fun hrun => exec_resting (hrest hstill) hstill h fun _ _ => hrun,
          fun hnow => (hfree (hreset ▸ hnow)).elim⟩
      · rw [eq_of_exec h (exec_loadingComplete_of_no_read hreading)]
        exact hs
    | _ => exact absurd rfl hloader

end

/-! ## The peer table (R19, R20, R40) -/

section
variable {c : Instr} {s t : State}

/-- What the receive filter drops is counted by the Link Port, with a flag at most; the rest has a
sender that an entry can keep. -/
theorem State.filterFrame_cases (s : State) (bytes : List Byte) (good : Bool) :
    (∃ lp cl, s.filterFrame bytes good = { s with lp := lp, cl := cl }) ∨
    ∃ f, parseFrame bytes = some f ∧ f.SenderOk s.own ∧
      s.filterFrame bytes good = s.takeArrival f := by
  by_cases hcheck : good = false ∨ parseFrame bytes = none
  · rw [State.filterFrame_of_check_failed hcheck]
    exact .inl ⟨_, _, rfl⟩
  · simp only [not_or, Bool.not_eq_false] at hcheck
    obtain ⟨rfl, hparsed⟩ := hcheck
    obtain ⟨f, hf⟩ := Option.ne_none_iff_exists'.1 hparsed
    by_cases hgroup : f.header.group = s.cfg.group
    · by_cases hown : f.header.station = s.own
      · rw [State.filterFrame_of_clash hf hgroup hown]
        exact .inl ⟨_, _, rfl⟩
      · obtain ⟨⟨⟨hstation, hwearer, hscore, _⟩, _⟩, _⟩ := parseFrame_sound hf
        exact .inr ⟨f, hf, ⟨hstation, hown, hwearer, hscore⟩,
          State.filterFrame_of_passed hf hgroup hown⟩
    · rw [State.filterFrame_of_foreign hf hgroup]
      exact .inl ⟨_, _, rfl⟩

/-- The reaction of the Link Port reaches no table. -/
theorem State.linkReact_rosterOk (h : s.RosterOk) : s.linkReact.RosterOk :=
  h.of_fixed (by simp [State.own]) (by simp) (by simp) (by simp) (by simp)

theorem State.flushAll_rosterOk (h : s.RosterOk) : s.flushAll.RosterOk := by
  refine h.of_fixed rfl rfl rfl rfl ?_
  change (s.ru.peers.map Peer.flushQueue).map Peer.fixed = s.ru.peers.map Peer.fixed
  rw [List.map_map]
  refine List.map_congr_left fun p _ => ?_
  cases hq : p.queue with
  | none => simp [Peer.fixed, Peer.flushQueue, hq]
  | some q => simp [Peer.fixed, Peer.flushQueue, hq]

theorem State.afterMix_rosterOk (h : s.RosterOk) (mic call : Block) : (s.afterMix mic call).RosterOk := by
  have hpeers : (s.afterMix mic call).ru = { s.ru with peers := playPeers s.cfg.depth s.ru.peers } := by
    rw [s.afterMix_eq mic call rfl]
  have hsl : (s.afterMix mic call).sl = s.sl := by simp [State.afterMix, State.beforeMix]
  refine h.of_fixed (by rw [State.own, hsl]) (by rw [hpeers]) (by rw [hpeers]) (by rw [hpeers]) ?_
  rw [hpeers]
  change (playPeers s.cfg.depth s.ru.peers).map Peer.fixed = _
  rw [playPeers, List.map_map]
  refine List.map_congr_left fun p _ => ?_
  cases hq : p.queue with
  | none => simp [Peer.fixed, hq]
  | some q => simp [Peer.fixed, hq]

/-- Every command keeps the peer table and the departed list. -/
theorem exec_rosterOk (hinv : s.Inv) (h : exec c s = .next t) : t.RosterOk := by
  have hs := hinv.roster
  by_cases hc : c = .reset
  · subst hc
    rw [reset_cases h]
    exact rosterOk_of_empty rfl rfl (Nat.zero_le _) (Nat.zero_le _)
  by_cases hkept : (partsOf c).contains .entries = false ∧ (partsOf c).contains .departed = false ∧
      (partsOf c).contains .turnedAway = false ∧ (partsOf c).contains .loader = false
  · obtain ⟨hentries, hdeparted, hturned, hloader⟩ := hkept
    have hsl : t.sl = s.sl := exec_kept h hc (p := .loader) hloader
    have hpeers : t.ru.peers = s.ru.peers := exec_kept h hc (p := .entries) hentries
    obtain ⟨hfull, hmismatch⟩ := exec_kept h hc (p := .turnedAway) hturned
    exact hs.of_fixed (by rw [State.own, hsl]) (exec_kept h hc (p := .departed) hdeparted) hfull
      hmismatch (by rw [hpeers])
  cases c with
  | resetRelease => rcases resetRelease_cases h with rfl | ⟨_, rfl⟩ <;> exact hs
  | loadingComplete img =>
    rcases loadingComplete_cases h with rfl | ⟨_, f, rfl⟩ | ⟨hloading, _, _, rfl⟩
    · exact hs
    · exact hs
    · obtain ⟨_, _, _, hru, _⟩ := hinv.atRest.1 (by simp [State.running, hloading])
      have hstarted : (s.startRunning img).linkReact.ru = RosterUnit.reset := by simp [hru]
      exact rosterOk_of_empty (by rw [hstarted]; rfl) (by rw [hstarted]; rfl)
        (by rw [hstarted]; exact Nat.zero_le _) (by rw [hstarted]; exact Nat.zero_le _)
  | frameArrival bytes good =>
    rcases frameArrival_cases h with rfl | ⟨_, rfl⟩
    · exact hs
    · refine State.linkReact_rosterOk ?_
      rcases s.filterFrame_cases bytes good with ⟨lp, cl, hdropped⟩ | ⟨f, _, hsender, htaken⟩
      · rw [hdropped]
        exact hs
      · rw [htaken]
        exact State.takeArrival_rosterOk hs hsender
  | blockBoundary mic call =>
    rcases blockBoundary_cases h with rfl | ⟨_, ⟨_, rfl⟩ | ⟨_, rfl⟩⟩
    · exact hs
    · exact hs
    · exact State.linkReact_rosterOk (State.afterMix_rosterOk hs mic call)
  | audioReadyFall =>
    rcases audioReadyFall_cases h with rfl | ⟨_, rfl⟩ | ⟨_, rfl⟩
    · exact hs
    · exact hs
    · exact State.linkReact_rosterOk (((State.Keeps.enterOff _).trans
        (.evaluateFollowed _)).rosterOk (s := s.isolate.cutSpurt) hs)
  | audioReadyRise =>
    have rejoined : s.rejoin.RosterOk := (State.Keeps.evaluateRole _).rosterOk
      (s := { s with ports := { s.ports with audioReady := true } }) hs
    have claims (u : State) : u.Keeps u.claimAtRise := by
      unfold State.claimAtRise
      split
      · exact .enterClaiming u
      · exact .refl u
    rcases audioReadyRise_cases h with rfl | ⟨_, ⟨_, rfl⟩ | ⟨_, rfl⟩⟩
    · exact hs
    · exact rejoined
    · exact State.linkReact_rosterOk (((claims _).trans (.evaluateFollowed _)).rosterOk
        (s := s.rejoin.flushAll.restMix.freshScore) (State.flushAll_rosterOk rejoined))
  | join =>
    rcases join_cases h with rfl | ⟨_, ⟨_, rfl⟩ | ⟨_, rfl⟩⟩
    · exact hs
    · exact hs
    · refine State.linkReact_rosterOk ?_
      have unmarked : ({ s with ru := { s.ru with peers := s.ru.peers.map Peer.clearMark } } :
          State).RosterOk := hs.of_fixed rfl rfl rfl rfl List.map_map
      exact unmarked.of_sublist (t := s.startWindow.freshWindow.hailOpen) rfl (.refl _)
        (List.nil_sublist _) rfl rfl
  | leave =>
    obtain ⟨_, _, _, _, _, _, hfull, hmismatch⟩ := id hs
    rcases leave_cases h with rfl | ⟨_, rfl⟩
    · exact hs
    · refine State.linkReact_rosterOk ?_
      have hru : s.deserted.evaluateFollowed.leaveRequests.ru =
          { s.ru with peers := [], departed := [], window := none } := by
        simp [State.deserted_eq]
      exact rosterOk_of_empty (by rw [hru]) (by rw [hru]) (by rw [hru]; exact hfull)
        (by rw [hru]; exact hmismatch)
  | callOff =>
    rcases callOff_cases h with rfl | ⟨_, rfl⟩
    · exact hs
    · exact State.linkReact_rosterOk (((State.Keeps.enterOff _).trans
        (.evaluateFollowed _)).rosterOk (s := s.withCallFlag false) hs)
  | settleExpiry =>
    rcases settleExpiry_cases h with rfl | ⟨e, _, ⟨_, rfl⟩ | ⟨_, rfl⟩⟩
    · exact hs
    · exact State.linkReact_rosterOk (((State.Keeps.enterYielded _).trans
        (.evaluateFollowed _)).rosterOk (s := s.catchUp e) hs)
    · exact State.linkReact_rosterOk (((State.Keeps.enterActive _).trans
        (.evaluateFollowed _)).rosterOk (s := s.catchUp e) hs)
  | peerLossExpiry n =>
    rcases peerLossExpiry_cases h with rfl | ⟨p, e, hp, hadm, rfl⟩
    · exact hs
    · refine (State.Keeps.notice _ n (s.isMate p)).rosterOk (s := s.peerLost n e) ?_
      have hlost : ((s.catchUp e).mapPeer n (fun p => { p with
          state := .lost, lostAt := some (s.catchUp e).now })).RosterOk := by
        refine State.RosterOk.mapPeer (s := s.catchUp e) hs (fun _ => rfl) fun q hq hok => ?_
        obtain rfl := Option.some.inj (hp.symm.trans hq)
        obtain ⟨hstation, hother, hwearer, hqueue, _, hrest⟩ := hok
        exact ⟨hstation, hother, hwearer,
          hqueue.trans (Peer.seen_of_not_hailed (by simp [hadm])), rfl, hrest⟩
      exact hlost
  | lostRemovalExpiry n =>
    rcases lostRemovalExpiry_cases h with rfl | ⟨p, e, _, _, rfl⟩
    · exact hs
    · obtain ⟨hremoved, _⟩ := State.removePeer_rosterOk (s := s.catchUp e) hs p
      exact hremoved
  | hailedExpiry n =>
    rcases hailedExpiry_cases h with rfl | ⟨p, e, _, _, rfl⟩
    · exact hs
    · obtain ⟨hremoved, _⟩ := State.removePeer_rosterOk (s := s.catchUp e) hs p
      exact hremoved
  | departedHoldExpiry n =>
    rcases departedHoldExpiry_cases h with rfl | ⟨e, rfl⟩
    · exact hs
    · exact State.RosterOk.undepart (s := s.catchUp e) hs n
  | _ => exact absurd ⟨rfl, rfl, rfl, rfl⟩ hkept

end

end Sys2Proof.Machine
end

section
/-! PROOFS. Every step keeps the receive queues (chapter 5), and with them the receiving side. -/

namespace Sys2Proof.Machine

section
variable {c : Instr} {s t : State}

/-! ## Sections placed (R78, R79) -/

theorem State.placeVoice_queuesKept (h : s.QueuesKept) (n : Nat) {x : TalkSection}
    (hx : ∀ b ∈ x.blocks, b.level ≤ 32768) : (s.placeVoice n x).QueuesKept := by
  cases hq : (s.peer n).bind (·.queue) with
  | none =>
    rw [State.placeVoice_of_none hq]
    exact h
  | some q =>
    obtain ⟨hdepth, hpeers, _⟩ := id h
    obtain ⟨p, hp, hpq⟩ := Option.bind_eq_some_iff.1 hq
    have hok : q.Ok := by
      have := hpeers p (findPeer_some hp).1
      rw [Peer.QueueOk, hpq] at this
      exact of_decide_eq_true this
    have hplaced := hok.placeAll hdepth (level_numberBlocks hx x.first)
    rw [State.placeVoice_of_queue hq]
    exact State.Only.setFlagIf _ _ _ .queuesOk (by decide)
      (State.Only.queuesOk_of_mapPeer s (fun _ _ => decide_eq_true hplaced) h)

theorem State.placeCall_queuesKept (h : s.QueuesKept) (n : Nat) {x : TalkSection}
    (hx : ∀ b ∈ x.blocks, b.level ≤ 32768) : (s.placeCall n x).QueuesKept := by
  obtain ⟨hdepth, hpeers, hrq⟩ := id h
  unfold State.placeCall
  split
  · exact State.Only.setFlagIf _ _ _ .queuesOk (by decide)
      ⟨hdepth, hpeers, hrq.placed (hrq.1.placeAll hdepth (level_numberBlocks hx x.first))⟩
  · exact h

theorem State.handSections_queuesKept (h : s.QueuesKept) {f : Frame} (hf : f.WellFormed) :
    (s.handSections f).QueuesKept := by
  obtain ⟨_, _, _, hbody⟩ := hf
  unfold State.handSections
  split
  · next v x heq =>
    rw [heq] at hbody
    obtain ⟨_, ⟨_, hv⟩, _, hx⟩ := hbody
    exact State.placeCall_queuesKept (State.placeVoice_queuesKept h _ hv) _ hx
  · exact h
  · exact h
  · exact h

/-- A well-formed frame leaves every queue in its bounds. -/
theorem State.takeArrival_queuesKept (h : s.QueuesKept) {f : Frame} (hf : f.WellFormed) :
    (s.takeArrival f).QueuesKept := by
  rcases State.Only.takeArrival_cases s f with honly | ⟨p, hrefresh⟩
  · exact honly .queuesOk (by decide) h
  · rw [hrefresh]
    have hrefreshed : s.Only [.standings, .floorMembers, .entries]
        (s.mapPeer f.header.station (fun p => p.refreshed s f)) := State.Only.mapPeer s fun _ => rfl
    exact State.handSections_queuesKept (State.Only.handHeader _ f (s.isMate p) .queuesOk (by decide)
      (hrefreshed .queuesOk (by decide) h)) hf

/-! ## Playout (R86, R93) -/

theorem State.afterMix_queuesKept (h : s.QueuesKept) (mic call : Block) :
    (s.afterMix mic call).QueuesKept := by
  obtain ⟨hdepth, hpeers, hrq⟩ := h
  have hsl : (s.afterMix mic call).sl = s.sl := by simp [State.afterMix, State.beforeMix]
  have hru : (s.afterMix mic call).ru = { s.ru with peers := playPeers s.cfg.depth s.ru.peers } := by
    rw [s.afterMix_eq mic call rfl]
  have hdown : (s.afterMix mic call).rq = (s.rq.step s.cfg.depth s.cfg.quietThreshold).1 := by
    rw [s.afterMix_eq mic call rfl]
  rw [State.QueuesKept, State.cfg, hsl, hru, hdown]
  refine ⟨hdepth, fun p hp => ?_, hrq.step hdepth _⟩
  obtain ⟨q, hq, rfl⟩ := List.mem_map.1 hp
  have hok := hpeers q hq
  cases hqueue : q.queue with
  | none => rfl
  | some r =>
    rw [Peer.QueueOk, hqueue] at hok
    have hrOk : r.Ok := of_decide_eq_true hok
    exact decide_eq_true (hrOk.playStep hdepth)

/-! ## Every command -/

/-- Before RUNNING there are no queues but the empty downlink. -/
theorem State.Resting.queuesOk (h : s.Resting) : s.QueuesOk := by
  obtain ⟨_, _, _, hru, hrq, _⟩ := h
  rw [State.QueuesOk, hru, hrq]
  exact ⟨fun _ hp => absurd hp List.not_mem_nil, by decide⟩

/-- Every command keeps the receive queues. -/
theorem exec_queuesOk (hinv : s.Inv) (h : exec c s = .next t) : t.QueuesOk := by
  obtain ⟨hpeers, hqueue, hslip⟩ := hinv.queues
  by_cases hrun : s.running
  · obtain ⟨-, -, -, -, -, ⟨-, hdepth⟩, -⟩ := hinv.settings hrun
    have hs : s.QueuesKept := ⟨hdepth, hpeers, hqueue, hslip⟩
    have bounds (ht : t.QueuesKept) : t.QueuesOk := ⟨ht.2.1, ht.2.2⟩
    by_cases hc : c = .reset
    · subst hc
      rw [reset_cases h]
      exact State.Resting.queuesOk ⟨rfl, rfl, rfl, rfl, rfl, rfl, rfl, rfl, rfl, rfl⟩
    by_cases hqueues : (partsOf c).contains .queuesOk = false
    · exact bounds (exec_kept h hc (p := .queuesOk) hqueues hs)
    · cases c with
      | loadingComplete img =>
        rw [eq_of_exec h (exec_loadingComplete_of_no_read (by simp [hrun]))]
        exact hinv.queues
      | frameArrival bytes good =>
        rcases frameArrival_cases h with rfl | ⟨_, rfl⟩
        · exact hinv.queues
        · refine bounds (State.Only.linkReact _ .queuesOk (by decide) ?_)
          rcases s.filterFrame_cases bytes good with ⟨lp, cl, hdropped⟩ | ⟨f, hparsed, _, htaken⟩
          · rw [hdropped]
            exact hs
          · rw [htaken]
            exact State.takeArrival_queuesKept hs (parseFrame_sound hparsed).1
      | blockBoundary mic call =>
        rcases blockBoundary_cases h with rfl | ⟨_, ⟨_, rfl⟩ | ⟨_, rfl⟩⟩
        · exact hinv.queues
        · exact hinv.queues
        · exact bounds (State.Only.linkReact _ .queuesOk (by decide)
            (State.afterMix_queuesKept hs mic call))
      | _ => exact absurd rfl hqueues
  · by_cases hload : ∃ img, c = .loadingComplete img
    · obtain ⟨img, rfl⟩ := hload
      rcases loadingComplete_cases h with rfl | ⟨_, f, rfl⟩ | ⟨_, _, _, rfl⟩
      · exact hinv.queues
      · exact hinv.queues
      · have hru : (s.startRunning img).linkReact.ru = s.ru := by simp
        have hrq : (s.startRunning img).linkReact.rq = s.rq := by simp
        rw [State.QueuesOk, hru, hrq]
        exact hinv.queues
    · exact (exec_resting (hinv.atRest.1 hrun) hrun h fun img hc => absurd ⟨img, hc⟩ hload).queuesOk

end

/-- Settles O57: settings and rest by the loader's two events, the table by its lookups, the queues by
their operations. -/
theorem stepKeepsRosterAndQueues : Obligations.StepKeepsRosterAndQueues := by
  intro s t hinv h
  rcases step_cases hinv h with rfl | ⟨c, r, hr, hexec⟩
  · rw [State.tick]
    split <;> exact ⟨hinv.settings, hinv.atRest, hinv.roster, hinv.queues⟩
  · exact ⟨exec_settingsOk hr.settings hexec, exec_atRest hr.atRest hexec, exec_rosterOk hr hexec,
      exec_queuesOk hr hexec⟩

end Sys2Proof.Machine
end

section
/-! PROOFS. Every step keeps the bridge state, the followed bridge and the floor view (chapter 7). -/

namespace Sys2Proof.Machine

/-! ## What the Bridge Unit sees of the table -/

/-- What the ADMITTED entries show, in the order of the table. -/
def inView (ps : List Peer) : List (Nat × PeerState × SenderState) :=
  (ps.map Peer.standing).filter (fun x => x.2.1 = .admitted)

theorem inView_eq (ps : List Peer) :
    inView ps = (ps.filter (fun p => p.state = .admitted)).map Peer.standing := by
  rw [inView, List.filter_map]
  rfl

theorem inView_of_standings {ps qs : List Peer} (h : qs.map Peer.standing = ps.map Peer.standing) :
    inView qs = inView ps := by
  rw [inView, inView, h]

theorem claimBelow_eq_inView (own : Nat) (ps : List Peer) : claimBelow own ps =
    (inView ps).any (fun x => decide (x.1 < own) && (x.2.2.flags.claim || x.2.2.flags.active)) := by
  rw [inView_eq, List.any_map, List.any_filter, claimBelow]
  simp only [Peer.standing, Function.comp_def, Bool.and_assoc]
  rfl

theorem activePeer_eq_inView (ps : List Peer) :
    activePeer ps = ((inView ps).find? (fun x => x.2.2.flags.active)).map (·.1) := by
  have hshows : (fun p : Peer => decide (decide (p.state = .admitted) = true ∧
      p.header.flags.active = true)) = Peer.showsActive := by
    funext p
    simp [Peer.showsActive, Bool.decide_and]
  rw [inView_eq, List.find?_map, List.find?_filter, Option.map_map, activePeer, ← hshows]
  rfl

theorem inView_insertPeer {p : Peer} (h : p.state ≠ .admitted) (ps : List Peer) :
    inView (insertPeer p ps) = inView ps := by
  rw [inView_eq, inView_eq]
  congr 1
  induction ps with
  | nil => simp [insertPeer, h]
  | cons q qs ih =>
    unfold insertPeer
    split
    · simp [h]
    · rw [List.filter_cons, List.filter_cons, ih]

/-- A change of entries that stay out of view, or show what they showed. -/
theorem inView_map {f : Peer → Peer} {ps : List Peer} (h : ∀ p ∈ ps, (f p).standing = p.standing ∨
    (p.state ≠ .admitted ∧ (f p).state ≠ .admitted)) : inView (ps.map f) = inView ps := by
  have hidden {q : Peer} (hq : q.state ≠ .admitted) : ¬decide (q.standing.2.1 = .admitted) = true :=
    fun hadm => hq (of_decide_eq_true hadm)
  induction ps with
  | nil => rfl
  | cons p ps ih =>
    have hrest := ih fun q hq => h q (List.mem_cons_of_mem _ hq)
    simp only [inView, List.map_cons, List.filter_cons] at hrest ⊢
    rcases h p (.head _) with hsame | ⟨hp, hfp⟩
    · rw [hsame, hrest]
    · rw [if_neg (hidden hfp), if_neg (hidden hp), hrest]

theorem inView_erasePeer {n : Nat} {ps : List Peer}
    (h : ∀ p ∈ ps, p.station = n → p.state ≠ .admitted) : inView (erasePeer n ps) = inView ps := by
  rw [inView_eq, inView_eq, erasePeer, List.filter_filter]
  congr 1
  refine List.filter_congr fun p hp => ?_
  by_cases hadm : p.state = .admitted
  · have : p.station ≠ n := fun hn => h p hp hn hadm
    simp [hadm, this]
  · simp [hadm]

section
variable {s t : State}

/-- The same states in view claim alike and are followed alike. -/
theorem State.lowerClaimer_congr (hown : t.own = s.own) (h : inView t.ru.peers = inView s.ru.peers) :
    t.lowerClaimer = s.lowerClaimer := by
  rw [State.lowerClaimer_eq, State.lowerClaimer_eq, claimBelow_eq_inView, claimBelow_eq_inView, h, hown]

theorem State.bridgeInView_congr (hstate : t.bu.state = s.bu.state) (hown : t.own = s.own)
    (h : inView t.ru.peers = inView s.ru.peers) : t.bridgeInView = s.bridgeInView := by
  by_cases hactive : s.bu.state = .active
  · rw [State.bridgeInView_of_active hactive, State.bridgeInView_of_active (hstate.trans hactive), hown]
  · rw [State.bridgeInView_eq_activePeer hactive,
      State.bridgeInView_eq_activePeer (hstate ▸ hactive), activePeer_eq_inView,
      activePeer_eq_inView, h]

/-! ## The parts of the agreement -/

/-- The bridge state and the lower claimers agree (R130). -/
def State.ClaimsOk (s : State) : Prop :=
  (s.bu.state = .claiming ∨ s.bu.state = .active → s.lowerClaimer = false) ∧
  (s.bu.state = .yielded → s.lowerClaimer = true)

/-- The floor view stands only while a peer is followed (R168). -/
def State.ViewOk (s : State) : Prop :=
  s.cq.view ≠ none → s.bu.followed ≠ none ∧ s.bu.state ≠ .active

theorem State.BridgeOk.call (h : s.BridgeOk) : s.CallOk := by
  obtain ⟨hcall, hsettle, _⟩ := h
  exact ⟨hcall, hsettle⟩

theorem State.BridgeOk.claims (h : s.BridgeOk) : s.ClaimsOk := by
  obtain ⟨_, _, hnone, hlower, _⟩ := h
  exact ⟨hnone, hlower⟩

theorem State.BridgeOk.viewed (h : s.BridgeOk) : s.ViewOk := by
  obtain ⟨_, _, _, _, _, hview⟩ := h
  exact hview

/-- A state that shows the Bridge Unit the same is as good, with the same view or none. -/
theorem State.BridgeOk.congr (h : s.BridgeOk) (hbu : t.bu = s.bu)
    (hready : t.ports.audioReady = s.ports.audioReady) (hown : t.own = s.own)
    (hin : inView t.ru.peers = inView s.ru.peers) (hview : t.cq.view ≠ none → s.cq.view ≠ none) :
    t.BridgeOk := by
  obtain ⟨hcall, hsettle, hnone, hlower, hfollowed, hviewed⟩ := h
  rw [State.BridgeOk, State.lowerClaimer_congr hown hin,
    State.bridgeInView_congr (congrArg _ hbu) hown hin, hbu, hready]
  exact ⟨hcall, hsettle, hnone, hlower, hfollowed, fun hv => hviewed (hview hv)⟩

/-- A change that leaves bridge, table, settings, readiness and view alone. -/
theorem State.BridgeOk.kept {l : List Part} (h : s.BridgeOk) (honly : s.Only l t)
    (hl : l.contains .bridge = false ∧ l.contains .standings = false ∧ l.contains .view = false ∧
      l.contains .loader = false ∧ l.contains .audioReady = false := by decide) : t.BridgeOk := by
  obtain ⟨hbridge, hstandings, hview, hloader, hready⟩ := hl
  have same {p : Part} (hp : l.contains p = false) : p.same s t :=
    honly p fun hmem => by rw [List.contains_iff_mem.2 hmem] at hp; cases hp
  have hsl : t.sl = s.sl := same (p := .loader) hloader
  have hpeers : t.ru.peers.map Peer.standing = s.ru.peers.map Peer.standing :=
    same (p := .standings) hstandings
  have hv : t.cq.view = s.cq.view := same (p := .view) hview
  exact h.congr (same (p := .bridge) hbridge) (same (p := .audioReady) hready)
    (by rw [State.own, hsl]) (inView_of_standings hpeers) (by rw [hv]; exact id)

/-- What the Wearer Logic and the Bridge Unit hold before the followed bridge is evaluated suffices. -/
theorem State.evaluateFollowed_bridgeOk (hcall : s.CallOk) (hclaims : s.ClaimsOk) (hview : s.ViewOk) :
    s.evaluateFollowed.BridgeOk := by
  rw [State.evaluateFollowed_eq]
  refine ⟨hcall.1, hcall.2, hclaims.1, hclaims.2, rfl, fun hstands => ?_⟩
  by_cases hsame : s.bridgeInView = s.bu.followed
  · simp only [if_pos hsame] at hstands
    dsimp only
    rw [hsame]
    exact hview hstands
  · simp only [if_neg hsame] at hstands
    exact absurd rfl hstands

/-! ## Evaluations of the bridge state (R130) -/

theorem State.enterClaiming_claimsOk (s : State) : s.enterClaiming.ClaimsOk := by
  cases hlower : s.lowerClaimer with
  | false =>
    rw [State.enterClaiming_of_none_lower hlower]
    exact ⟨fun _ => hlower, nofun⟩
  | true =>
    rw [State.enterClaiming_of_lower hlower]
    exact ⟨nofun, fun _ => hlower⟩

theorem State.evaluateState_claimsOk (s : State) : s.evaluateState.ClaimsOk := by
  have honly := State.Only.evaluateState s
  have hsl : s.evaluateState.sl = s.sl := honly .loader (by decide)
  have hlower : s.evaluateState.lowerClaimer = s.lowerClaimer :=
    State.lowerClaimer_congr (by rw [State.own, hsl])
      (inView_of_standings (honly .standings (by decide)))
  rw [State.ClaimsOk, hlower]
  cases hstate : s.bu.state with
  | off =>
    rw [State.evaluateState_of_kept (.inl hstate), hstate]
    exact ⟨nofun, nofun⟩
  | claiming =>
    cases hl : s.lowerClaimer with
    | false =>
      rw [State.evaluateState_of_kept (.inr (.inl ⟨.inl hstate, hl⟩)), hstate]
      exact ⟨fun _ => rfl, nofun⟩
    | true =>
      rw [State.evaluateState_of_outclaimed hstate hl]
      exact ⟨nofun, fun _ => rfl⟩
  | active =>
    cases hl : s.lowerClaimer with
    | false =>
      rw [State.evaluateState_of_kept (.inr (.inl ⟨.inr hstate, hl⟩)), hstate]
      exact ⟨fun _ => rfl, nofun⟩
    | true =>
      rw [State.evaluateState_of_displaced hstate hl]
      exact ⟨nofun, fun _ => rfl⟩
  | yielded =>
    cases hl : s.lowerClaimer with
    | false =>
      rw [State.evaluateState_of_freed hstate hl, State.enterClaiming_of_none_lower hl]
      exact ⟨fun _ => rfl, nofun⟩
    | true =>
      rw [State.evaluateState_of_kept (.inr (.inr ⟨hstate, hl⟩)), hstate]
      exact ⟨nofun, fun _ => rfl⟩

/-- No evaluation enters ACTIVE. -/
theorem State.active_of_evaluateState (h : s.evaluateState.bu.state = .active) :
    s.bu.state = .active := by
  rcases s.evaluateState_cases with he | ⟨_, he⟩ | ⟨_, _, he⟩ | ⟨hactive, _⟩
  · rwa [he] at h
  · rw [he] at h
    cases h
  · rw [he] at h
    exact absurd h s.enterClaiming_state_ne_active
  · exact hactive

theorem State.evaluateState_viewOk (h : s.ViewOk) : s.evaluateState.ViewOk := by
  have hview : s.evaluateState.cq.view = s.cq.view := State.Only.evaluateState s .view (by decide)
  rw [State.ViewOk, hview, s.evaluateState_followed]
  intro hstands
  obtain ⟨hfollowed, hstate⟩ := h hstands
  exact ⟨hfollowed, fun hactive => hstate (State.active_of_evaluateState hactive)⟩

/-- Role and bridge evaluated, the bridge state agrees with what is in view. -/
theorem State.judge_bridgeOk (hcall : s.CallOk) (hview : s.ViewOk) (isMate : Bool) :
    (s.mateEvent isMate).evaluateBridge.BridgeOk := by
  have honly := State.Only.mateEvent s isMate
  have hbu : (s.mateEvent isMate).bu = s.bu := honly .bridge (by decide)
  have hcq : (s.mateEvent isMate).cq.view = s.cq.view := honly .view (by decide)
  refine State.evaluateFollowed_bridgeOk
    (State.Only.evaluateState _ .callOk (by decide) (honly .callOk (by decide) hcall))
    (State.evaluateState_claimsOk _) (State.evaluateState_viewOk ?_)
  rw [State.ViewOk, hbu, hcq]
  exact hview

/-! ## Notices and headers handed on (R23, R38) -/

theorem State.notice_bridgeOk (hcall : s.CallOk) (hview : s.ViewOk) (n : Nat) (isMate : Bool) :
    (s.notice n isMate).BridgeOk :=
  (State.judge_bridgeOk hcall hview isMate).kept (State.Only.floorNotice _ n)

/-- Extras set the view for a peer that is followed, never at an ACTIVE bridge (R167). -/
theorem State.takeExtras_bridgeOk (h : s.BridgeOk) {n : Nat} (hn : n ≠ s.own) (x : Extras) :
    (s.takeExtras n x).BridgeOk := by
  by_cases hfollowed : s.bu.followed = some n
  · have honly := State.Only.takeExtras s n x
    have hsl : (s.takeExtras n x).sl = s.sl := honly .loader (by decide)
    have hbu : (s.takeExtras n x).bu = s.bu := honly .bridge (by decide)
    have hready : (s.takeExtras n x).ports.audioReady = s.ports.audioReady :=
      honly .audioReady (by decide)
    have hown : (s.takeExtras n x).own = s.own := by rw [State.own, hsl]
    have hin : inView (s.takeExtras n x).ru.peers = inView s.ru.peers :=
      inView_of_standings (honly .standings (by decide))
    obtain ⟨hcall, hsettle, hnone, hlower, hview, _⟩ := h
    rw [State.BridgeOk, State.lowerClaimer_congr hown hin,
      State.bridgeInView_congr (congrArg _ hbu) hown hin, hbu, hready]
    refine ⟨hcall, hsettle, hnone, hlower, hview, fun _ => ⟨by simp [hfollowed], fun hactive => ?_⟩⟩
    rw [hview, State.bridgeInView_of_active hactive] at hfollowed
    exact hn (Option.some.inj hfollowed).symm
  · rw [State.takeExtras_of_other hfollowed]
    exact h

theorem State.requestHeader_bridgeOk (h : s.BridgeOk) {n : Nat} (hn : n ≠ s.own) (d : SenderState)
    (x : Option Extras) : (s.requestHeader n d x).BridgeOk := by
  have header : s.Only [.termOk, .floorMembers, .entries, .latches, .merges, .reports, .floor,
      .assembler] (if s.bu.state = .active then s.bridgeHeader n d else s) := by
    split
    · exact State.Only.bridgeHeader s n d
    · exact State.Only.refl _ s
  have hsl : (if s.bu.state = .active then s.bridgeHeader n d else s).sl = s.sl :=
    header .loader (by decide)
  cases x with
  | none => exact h.kept header
  | some x =>
    refine State.takeExtras_bridgeOk (h.kept header) ?_ x
    rw [State.own, hsl]
    exact hn

theorem State.handHeader_bridgeOk (hcall : s.CallOk) (hview : s.ViewOk) {f : Frame}
    (hf : f.header.station ≠ s.own) (wasMate : Bool) : (s.handHeader f wasMate).BridgeOk := by
  have hsl : (s.mateEvent (wasMate || f.header.wearer = s.cfg.wearer)).evaluateBridge.sl = s.sl := by
    simp
  refine State.requestHeader_bridgeOk (State.judge_bridgeOk hcall hview _) ?_ _ _
  rw [State.own, hsl]
  exact hf

/-- Sections reach queues alone. -/
theorem State.Only.sections (s : State) (f : Frame) :
    s.Only [.queuesOk, .entries, .downlink] (s.handSections f) := by
  unfold State.handSections
  split
  · exact (placeVoice s _ _).mono.trans (placeCall _ _ _).mono
  · exact refl _ s
  · exact refl _ s
  · exact refl _ s

end

/-! ## An arrival -/

section
variable {s : State} {f : Frame}

/-- An admission evaluates the bridge before it hands the header on. -/
theorem State.admission_bridgeOk (hcall : s.CallOk) (hview : s.ViewOk)
    (hf : f.header.station ≠ s.own) : (s.admission f).BridgeOk := by
  have based (u : State) (hu : u.CallOk) (hv : u.ViewOk) : (u.baseline f.header.station
      f.header.sender).CallOk ∧ (u.baseline f.header.station f.header.sender).ViewOk := by
    have honly := State.Only.baseline u f.header.station f.header.sender
    have hbu : (u.baseline f.header.station f.header.sender).bu = u.bu := honly .bridge (by decide)
    have hcq : (u.baseline f.header.station f.header.sender).cq.view = u.cq.view :=
      honly .view (by decide)
    refine ⟨honly .callOk (by decide) hu, ?_⟩
    rw [State.ViewOk, hbu, hcq]
    exact hv
  unfold State.admission
  dsimp only
  split
  · obtain ⟨hcall', hview'⟩ := based (((s.setFlag .peerJoined).mapPeer f.header.station
      (fun p => { p with queue := some (RxQueue.cleared QueueCounts.zero) })).askPresence) hcall hview
    have hsl : ((((s.setFlag .peerJoined).mapPeer f.header.station (fun p => { p with
        queue := some (RxQueue.cleared QueueCounts.zero) })).askPresence).baseline f.header.station
        f.header.sender).sl = s.sl := by
      simp
    refine State.handHeader_bridgeOk hcall' hview' ?_ false
    rw [State.own, hsl]
    exact hf
  · exact State.handHeader_bridgeOk (s := ((s.setFlag .peerJoined).mapPeer f.header.station
      (fun p => { p with queue := some (RxQueue.cleared QueueCounts.zero) })).askPresence)
      hcall hview hf false

theorem State.introduceHailed_bridgeOk (h : s.BridgeOk) (hf : f.header.station ≠ s.own)
    (counted : Bool) : (s.introduceHailed f counted).BridgeOk := by
  unfold State.introduceHailed
  dsimp only
  split
  · have hcall := h.call
    have hview := h.viewed
    exact State.admission_bridgeOk (s := s.mapPeer f.header.station _) hcall hview hf
  · exact h

theorem State.introduceNew_bridgeOk (h : s.BridgeOk) (hf : f.header.station ≠ s.own) :
    (s.introduceNew f).BridgeOk := by
  have hcall := h.call
  have hview := h.viewed
  unfold State.introduceNew
  split
  · split
    · exact h.kept (State.Only.tableFull s)
    · exact State.admission_bridgeOk (s := s.addPeer _) hcall hview hf
  · exact h

/-- A station HAILED, or taken off the departed list, is not in view. -/
theorem State.pairNew_bridgeOk (h : s.BridgeOk) (hf : f.header.station ≠ s.own) (heard : List Nat) :
    (s.pairNew f heard).BridgeOk := by
  have hcall := h.call
  have hview := h.viewed
  unfold State.pairNew
  split
  · exact h.kept (State.Only.tableFull s)
  · dsimp only
    split
    · exact State.admission_bridgeOk (s := (s.undepart f.header.station).addPeer _) hcall hview hf
    · refine State.introduceHailed_bridgeOk (s := (s.undepart f.header.station).addPeer _) ?_ hf true
      exact h.congr rfl rfl rfl (inView_insertPeer (p := newPeer s.own s.now f .hailed true)
        (by simp [newPeer]) _) id

theorem State.pairHailed_bridgeOk (h : s.BridgeOk) (hf : f.header.station ≠ s.own)
    (hhailed : ∀ p ∈ s.ru.peers, p.station = f.header.station → p.state = .hailed)
    (heard : List Nat) : (s.pairHailed f heard).BridgeOk := by
  have hcall := h.call
  have hview := h.viewed
  unfold State.pairHailed
  dsimp only
  split
  · exact State.admission_bridgeOk (s := ((s.undepart f.header.station).mapPeer f.header.station
      _).mapPeer f.header.station _) hcall hview hf
  · refine State.introduceHailed_bridgeOk (s := (s.undepart f.header.station).mapPeer
      f.header.station (fun p => p.renewed s.own s.now f)) ?_ hf true
    refine h.congr rfl rfl rfl (inView_map fun p hp => ?_) id
    split
    · next hn =>
      have hstate := hhailed p hp hn
      exact .inr ⟨by simp [hstate], by simp [Peer.renewed, Peer.takeFrame, Peer.countFrame, hstate]⟩
    · exact .inl rfl

theorem State.refreshPeer_bridgeOk (h : s.BridgeOk) (hf : f.header.station ≠ s.own) (p : Peer) :
    (s.refreshPeer f p).BridgeOk := by
  have hcall := h.call
  have hview := h.viewed
  exact (State.handHeader_bridgeOk (s := s.mapPeer f.header.station (fun p => p.refreshed s f)) hcall
    hview hf (s.isMate p)).kept (State.Only.sections _ f)

/-- A HAILED entry that goes was not in view. -/
theorem State.inView_without_hailed (hroster : s.RosterOk) {n : Nat} {p : Peer}
    (hp : s.peer n = some p) (hseen : ¬p.seen = true) :
    inView (erasePeer p.station s.ru.peers) = inView s.ru.peers := by
  obtain ⟨_, hsorted, _⟩ := hroster
  refine inView_erasePeer fun q hq hqp hadm => hseen ?_
  have hfound : findPeer p.station s.ru.peers = some q := hqp ▸ findPeer_of_mem hsorted hq
  obtain rfl := Option.some.inj (hfound.symm.trans (findPeer_of_mem hsorted (findPeer_some hp).1))
  exact Peer.seen_of_not_hailed (by simp [hadm])

/-- The removal of an entry evaluates the bridge, unless it was never in view. -/
theorem State.removePeer_bridgeOk (h : s.BridgeOk) (hroster : s.RosterOk) {n : Nat} {p : Peer}
    (hp : s.peer n = some p) : (s.removePeer p).BridgeOk := by
  have hcall := h.call
  have hview := h.viewed
  unfold State.removePeer
  dsimp only
  split
  · exact State.notice_bridgeOk (s := s.without p.station) hcall hview _ _
  · next hseen => exact h.congr rfl rfl rfl (State.inView_without_hailed hroster hp hseen) id

theorem State.leaveFrame_bridgeOk (h : s.BridgeOk) (hroster : s.RosterOk) (n : Nat) :
    (s.leaveFrame n).BridgeOk := by
  unfold State.leaveFrame
  cases hp : s.peer n with
  | none => exact h.kept (State.Only.depart s n)
  | some p =>
    exact (State.removePeer_bridgeOk h hroster hp).kept
      ((State.Only.setFlagIf _ _ _).mono.trans (State.Only.depart _ n))

/-- Whatever arrives, the bridge state agrees with what is in view. -/
theorem State.takeArrival_bridgeOk (h : s.BridgeOk) (hroster : s.RosterOk)
    (hf : f.header.station ≠ s.own) : (s.takeArrival f).BridgeOk := by
  by_cases hkind : f.header.kind = .leave
  · rw [State.takeArrival_of_leave hkind]
    exact State.leaveFrame_bridgeOk h hroster _
  by_cases hcode : s.OwnCode f
  · have pairing := em (s.ru.window.isSome = true ∧ ∃ code heard, f.body = .hail code heard)
    cases hp : s.peer f.header.station with
    | none =>
      obtain ⟨hhail, hother⟩ := State.takeArrival_of_none hkind hcode hp
      rcases pairing with ⟨hopen, code, heard, hbody⟩ | hpair
      · rw [hhail code heard hbody hopen]
        exact State.pairNew_bridgeOk h hf heard
      · rw [hother hpair]
        exact State.introduceNew_bridgeOk h hf
    | some p =>
      by_cases hstate : p.state = .hailed
      · obtain ⟨hhail, hother⟩ := State.takeArrival_of_hailed hkind hcode hp hstate
        rcases pairing with ⟨hopen, code, heard, hbody⟩ | hpair
        · rw [hhail code heard hbody hopen]
          refine State.pairHailed_bridgeOk h hf (fun q hq hn => ?_) heard
          obtain ⟨_, hsorted, _⟩ := hroster
          have hfound : s.peer f.header.station = some q := hn ▸ findPeer_of_mem hsorted hq
          exact Option.some.inj (hp.symm.trans hfound) ▸ hstate
        · rw [hother hpair]
          exact State.introduceHailed_bridgeOk h hf false
      · rw [State.takeArrival_of_seen hkind hcode hp hstate]
        exact State.refreshPeer_bridgeOk h hf p
  · rw [State.takeArrival_of_other_code hkind hcode]
    exact h

end

end Sys2Proof.Machine
end

section
/-! PROOFS. Every command keeps the bridge state, the followed bridge and the floor view. -/

namespace Sys2Proof.Machine

section
variable {c : Instr} {s t : State}

/-- At rest the Bridge Unit is OFF and follows nobody. -/
theorem State.Resting.bridgeOk (h : s.Resting) : s.BridgeOk := by
  obtain ⟨_, _, _, hru, _, _, hbu, hcq, _⟩ := h
  have hview : s.bridgeInView = none := by
    rw [State.bridgeInView_of_no_peers (by rw [hru]; rfl), hbu]
    rfl
  rw [State.BridgeOk, hview, hbu, hcq]
  exact ⟨⟨fun hne => absurd rfl hne, fun hcall => absurd hcall.1 (by decide)⟩, rfl,
    fun hstate => hstate.elim nofun nofun, nofun, rfl, fun hne => absurd rfl hne⟩

/-- The reaction of the Link Port reaches neither bridge nor table. -/
theorem State.linkReact_bridgeOk (h : s.BridgeOk) : s.linkReact.BridgeOk :=
  h.kept (State.Only.linkReact s)

/-- A Bridge Unit that claims runs its settle timer or has yielded. -/
theorem State.enterClaiming_callOk (hflag : s.bu.callFlag = true) (hready : s.ports.audioReady = true) :
    s.enterClaiming.CallOk := by
  cases hlower : s.lowerClaimer with
  | false =>
    rw [State.enterClaiming_of_none_lower hlower]
    exact ⟨⟨fun _ => ⟨hflag, hready⟩, fun _ => nofun⟩, rfl⟩
  | true =>
    rw [State.enterClaiming_of_lower hlower]
    exact ⟨⟨fun _ => ⟨hflag, hready⟩, fun _ => nofun⟩, rfl⟩

/-- Claiming from OFF leaves the followed bridge and the view to the next evaluation. -/
theorem State.enterClaiming_viewOk (h : s.ViewOk) : s.enterClaiming.ViewOk := by
  cases hlower : s.lowerClaimer with
  | false =>
    rw [State.enterClaiming_of_none_lower hlower]
    exact fun hstands => ⟨(h hstands).1, nofun⟩
  | true =>
    rw [State.enterClaiming_of_lower hlower]
    exact fun hstands => ⟨(h hstands).1, nofun⟩

/-- The Bridge Unit goes OFF, with no call flag or no AUDIO_READY. -/
theorem State.enterOff_bridgeOk (hview : s.ViewOk)
    (hoff : ¬(s.bu.callFlag = true ∧ s.ports.audioReady = true)) :
    s.enterOff.evaluateFollowed.BridgeOk := by
  have honly := State.Only.enterOff s
  have hready : s.enterOff.ports.audioReady = s.ports.audioReady := honly .audioReady (by decide)
  have hcq : s.enterOff.cq.view = s.cq.view := honly .view (by decide)
  have hbu := s.enterOff_bu
  refine State.evaluateFollowed_bridgeOk ?_ ?_ ?_
  · rw [State.CallOk, hbu, hready]
    exact ⟨⟨fun hne => absurd rfl hne, fun hcall => absurd hcall hoff⟩, rfl⟩
  · rw [State.ClaimsOk, hbu]
    exact ⟨fun hstate => hstate.elim nofun nofun, nofun⟩
  · rw [State.ViewOk, hbu, hcq]
    exact fun hstands => ⟨(hview hstands).1, nofun⟩

/-- CALL_ON claims from OFF when AUDIO_READY is high (R128, R131). -/
theorem callOn_bridgeOk (hs : s.BridgeOk) (h : exec .callOn s = .next t) : t.BridgeOk := by
  have hclaims := hs.claims
  have hview := hs.viewed
  obtain ⟨hcall, hsettle⟩ := hs.call
  rcases callOn_cases h with rfl | ⟨_, ⟨hoff, hready, rfl⟩ | ⟨hother, rfl⟩⟩
  · exact hs
  · exact State.evaluateFollowed_bridgeOk
      (State.enterClaiming_callOk (s := s.withCallFlag true) rfl hready)
      (State.enterClaiming_claimsOk _) (State.enterClaiming_viewOk (s := s.withCallFlag true) hview)
  · refine State.evaluateFollowed_bridgeOk (s := s.withCallFlag true) ⟨⟨fun hout => ?_, fun hc => ?_⟩,
      hsettle⟩ hclaims hview
    · obtain ⟨_, hready⟩ := hcall.1 hout
      exact ⟨rfl, hready⟩
    · exact fun hoff => hother ⟨hoff, hc.2⟩

/-- A rise of AUDIO_READY finds the Bridge Unit OFF, and has it claim when the call flag is set
(R139). -/
theorem audioReadyRise_bridgeOk (hs : s.BridgeOk) (h : exec .audioReadyRise s = .next t)
    (hrest : ¬s.running → s.Resting) : t.BridgeOk := by
  have hview := hs.viewed
  have hcall := hs.call
  rcases audioReadyRise_cases h with rfl | ⟨hlow, ⟨hrun, rfl⟩ | ⟨_, rfl⟩⟩
  · exact hs
  · have ready : ({ s with ports := { s.ports with audioReady := true } } : State).Resting := hrest hrun
    obtain ⟨r, hr⟩ := State.evaluateRole_of_resting ready
    have hrejoined : s.rejoin.Resting := by
      rw [State.rejoin, hr]
      exact ready
    exact hrejoined.bridgeOk
  · set u := s.rejoin.flushAll.restMix.freshScore with hu
    have hoff : s.bu.state = .off := by
      by_contra hout
      rw [(hcall.1.1 hout).2] at hlow
      cases hlow
    have hbu : u.bu = s.bu := by simp [hu, State.rejoin, State.flushAll, State.restMix, State.freshScore]
    have hcq : u.cq = s.cq := by simp [hu, State.rejoin, State.flushAll, State.restMix, State.freshScore]
    have hports : u.ports.audioReady = true := by
      simp [hu, State.rejoin, State.flushAll, State.restMix, State.freshScore]
    have huview : u.ViewOk := by
      rw [State.ViewOk, hbu, hcq]
      exact hview
    refine State.linkReact_bridgeOk ?_
    cases hflag : s.bu.callFlag with
    | true =>
      have hclaims : u.claimAtRise = u.enterClaiming := by
        rw [State.claimAtRise, hbu, hflag, hoff]
        rfl
      rw [hclaims]
      exact State.evaluateFollowed_bridgeOk (State.enterClaiming_callOk (hbu ▸ hflag) hports)
        (State.enterClaiming_claimsOk _) (State.enterClaiming_viewOk huview)
    | false =>
      have hstays : u.claimAtRise = u := by
        rw [State.claimAtRise, hbu, hflag]
        rfl
      rw [hstays]
      refine State.evaluateFollowed_bridgeOk ?_ ?_ huview
      · rw [State.CallOk, hbu, hoff, hflag]
        refine ⟨⟨fun hne => absurd rfl hne, fun hc => absurd hc.1 (by decide)⟩, ?_⟩
        rw [hcall.2, hoff]
      · rw [State.ClaimsOk, hbu, hoff]
        exact ⟨fun hstate => hstate.elim nofun nofun, nofun⟩

/-- The settle timer runs out in CLAIMING: ACTIVE and following itself, or YIELDED (R132, R133). -/
theorem settleExpiry_bridgeOk (hs : s.BridgeOk) (hroster : s.RosterOk)
    (h : exec .settleExpiry s = .next t) : t.BridgeOk := by
  have hview := hs.viewed
  have hcall := hs.call
  rcases settleExpiry_cases h with rfl | ⟨e, hclaiming, ⟨hlower, rfl⟩ | ⟨hlower, rfl⟩⟩
  · exact hs
  · refine State.linkReact_bridgeOk (State.evaluateFollowed_bridgeOk ?_ ⟨?_, fun _ => hlower⟩ ?_)
    · exact State.CallOk.moved hcall (by simp [hclaiming]) nofun rfl rfl rfl
    · exact fun hstate => hstate.elim nofun nofun
    · exact fun hstands => ⟨(hview hstands).1, nofun⟩
  · obtain ⟨_, _, _, _, hfollowed, _⟩ := id hs
    have hother : (s.catchUp e).bu.followed ≠ some (s.catchUp e).own := by
      change s.bu.followed ≠ some s.own
      rw [hfollowed, State.bridgeInView_eq_activePeer (by simp [hclaiming])]
      exact State.activePeer_ne_own hroster
    rw [State.enterActive_eq hother, State.evaluateFollowed_activated]
    refine State.linkReact_bridgeOk (State.BridgeOk.kept (s := (s.catchUp e).activated) ?_
      (State.Only.firstView _))
    obtain ⟨hflag, hready⟩ := hcall.1.1 (by simp [hclaiming])
    refine ⟨⟨fun _ => ⟨hflag, hready⟩, fun _ => nofun⟩, rfl, fun _ => hlower, nofun, ?_,
      fun hne => absurd rfl hne⟩
    rw [State.bridgeInView_of_active rfl]
    rfl

/-- LEAVE leaves nobody to give way to or to follow (R140). -/
theorem leave_bridgeOk (hs : s.BridgeOk) (h : exec .leave s = .next t) : t.BridgeOk := by
  have hview := hs.viewed
  rcases leave_cases h with rfl | ⟨_, rfl⟩
  · exact hs
  · refine State.linkReact_bridgeOk (State.BridgeOk.kept ?_ (State.Only.leaveRequests _))
    have hnone : s.deserted.lowerClaimer = false :=
      State.lowerClaimer_of_no_peers (by rw [s.deserted_eq])
    have hstate : s.deserted.bu.state = if s.bu.state = .yielded then .claiming else s.bu.state := by
      rw [s.deserted_eq]
    refine State.evaluateFollowed_bridgeOk (State.Only.deserted s .callOk (by decide) hs.call)
      ⟨fun _ => hnone, fun hyielded => ?_⟩ fun hstands => ?_
    · rw [hstate] at hyielded
      split at hyielded
      · cases hyielded
      · next hne => exact absurd hyielded hne
    · have hcq : s.deserted.cq = s.cq := by rw [s.deserted_eq]
      have hfollowed : s.deserted.bu.followed = s.bu.followed := by rw [s.deserted_eq]
      obtain ⟨hone, hne⟩ := hview (hcq ▸ hstands)
      refine ⟨hfollowed ▸ hone, ?_⟩
      rw [hstate]
      split
      · exact nofun
      · exact hne

/-- Every command keeps the bridge state, the followed bridge and the floor view. -/
theorem exec_bridgeOk (hinv : s.Inv) (h : exec c s = .next t) : t.BridgeOk := by
  have hs := hinv.bridge
  have hcall := hs.call
  have hview := hs.viewed
  by_cases hc : c = .reset
  · subst hc
    rw [reset_cases h]
    exact State.Resting.bridgeOk ⟨rfl, rfl, rfl, rfl, rfl, rfl, rfl, rfl, rfl, rfl⟩
  by_cases hkept : (partsOf c).contains .bridge = false ∧ (partsOf c).contains .standings = false ∧
      (partsOf c).contains .view = false ∧ (partsOf c).contains .loader = false ∧
      (partsOf c).contains .audioReady = false
  · exact hs.kept (exec_only h hc) hkept
  cases c with
  | resetRelease => rcases resetRelease_cases h with rfl | ⟨_, rfl⟩ <;> exact hs
  | loadingComplete img =>
    rcases loadingComplete_cases h with rfl | ⟨_, f, rfl⟩ | ⟨hloading, _, _, rfl⟩
    · exact hs
    · exact hs
    · obtain ⟨_, _, _, hru, _, _, hbu, _⟩ := hinv.atRest.1 (by simp [State.running, hloading])
      have started : (s.startRunning img).bu = s.bu ∧ (s.startRunning img).cq = s.cq ∧
          (s.startRunning img).ports = s.ports ∧ (s.startRunning img).ru.peers = [] := by
        simp [hru, RosterUnit.reset]
      obtain ⟨hbu', hcq', hports', hpeers'⟩ := started
      refine State.linkReact_bridgeOk ?_
      obtain ⟨hflag, hsettle, _, _, _, hviewed⟩ := id hs
      have hnobody : (s.startRunning img).bridgeInView = none := by
        rw [State.bridgeInView_of_no_peers hpeers', hbu', hbu]
        rfl
      rw [State.BridgeOk, State.lowerClaimer_of_no_peers hpeers', hnobody, hbu', hcq', hports']
      refine ⟨hflag, hsettle, fun _ => rfl, ?_, ?_, hviewed⟩
      · rw [hbu]
        exact nofun
      · rw [hbu]
        rfl
  | frameArrival bytes good =>
    rcases frameArrival_cases h with rfl | ⟨_, rfl⟩
    · exact hs
    · refine State.linkReact_bridgeOk ?_
      rcases s.filterFrame_cases bytes good with ⟨lp, cl, hdropped⟩ | ⟨f, _, hsender, htaken⟩
      · rw [hdropped]
        exact hs
      · rw [htaken]
        exact State.takeArrival_bridgeOk hs hinv.roster hsender.other
  | audioReadyFall =>
    rcases audioReadyFall_cases h with rfl | ⟨hrun, rfl⟩ | ⟨_, rfl⟩
    · exact hs
    · have hrest : s.Resting := hinv.atRest.1 hrun
      have : s.isolate.Resting := by
        obtain ⟨hlp, hsa, hcu, hru, hrq, hme, hbu, hcq, _, hmute⟩ := hrest
        exact ⟨hlp, hsa, hcu, hru, hrq, hme, hbu, hcq, rfl, hmute⟩
      exact this.bridgeOk
    · exact State.linkReact_bridgeOk (State.enterOff_bridgeOk (s := s.isolate.cutSpurt) hview
        fun hboth => absurd hboth.2 (by simp [State.isolate, State.cutSpurt]))
  | audioReadyRise => exact audioReadyRise_bridgeOk hs h hinv.atRest.1
  | leave => exact leave_bridgeOk hs h
  | callOn => exact callOn_bridgeOk hs h
  | callOff =>
    rcases callOff_cases h with rfl | ⟨_, rfl⟩
    · exact hs
    · exact State.linkReact_bridgeOk (State.enterOff_bridgeOk (s := s.withCallFlag false) hview
        fun hboth => absurd hboth.1 (by simp [State.withCallFlag]))
  | peerLossExpiry n =>
    rcases peerLossExpiry_cases h with rfl | ⟨p, e, _, _, rfl⟩
    · exact hs
    · exact State.notice_bridgeOk (s := s.peerLost n e) hcall hview n _
  | lostRemovalExpiry n =>
    rcases lostRemovalExpiry_cases h with rfl | ⟨p, e, hp, _, rfl⟩
    · exact hs
    · exact State.removePeer_bridgeOk (s := s.catchUp e) hs hinv.roster hp
  | hailedExpiry n =>
    rcases hailedExpiry_cases h with rfl | ⟨p, e, hp, _, rfl⟩
    · exact hs
    · exact State.removePeer_bridgeOk (s := s.catchUp e) hs hinv.roster hp
  | settleExpiry => exact settleExpiry_bridgeOk hs hinv.roster h
  | floorViewExpiry =>
    rcases floorViewExpiry_cases h with rfl | ⟨e, rfl⟩
    · exact hs
    · exact hs.congr rfl rfl rfl rfl fun hne => absurd rfl hne
  | _ => exact absurd ⟨rfl, rfl, rfl, rfl, rfl⟩ hkept

end

end Sys2Proof.Machine
end

section
/-! PROOFS. Every step keeps the bridge term and the floor (chapter 8), and with them the bridge. -/

namespace Sys2Proof.Machine

/-! ## The bridge term (R146, R151, R164) -/

section
variable {c : Instr} {s t : State}

/-- The bridge's own request leaves its slots IDLE (R146). -/
theorem State.requestHere_termOk (h : s.TermOk) (hactive : s.bu.state = .active) (k : ReqKind) :
    (s.requestHere k).TermOk := by
  have hslot := State.Only.clearLate s k .termOk (by decide) h
  have hrecorded := State.Only.record _ k .accepted .termOk (by decide) hslot
  exact State.Only.termOk_of_active _ (State.Only.act _ k s.own) hactive (by decide) hrecorded

/-- A request made afar is PENDING with its late mark clear (R146). -/
theorem State.requestAfar_termOk (h : s.TermOk) (hstate : s.bu.state ≠ .active) (k : ReqKind) :
    (s.requestAfar k).TermOk := by
  unfold State.requestAfar
  dsimp only
  split
  · exact State.Only.record s k .busy .termOk (by decide) h
  · obtain ⟨hvacant, _, hlate, hmerges⟩ := h
    refine ⟨hvacant, fun hactive => absurd hactive hstate, fun j hj hpending => ?_, hmerges⟩
    by_cases hjk : j = k
    · subst hjk
      simp only [State.setSlot, PerKind.get_set_same]
    · simp only [State.setSlot, PerKind.get_set_other _ hjk] at hpending ⊢
      exact hlate j hj hpending

/-- What a claimer's first view is taken from: nothing of a term stands (R164). -/
theorem State.activated_viewed (hterm : s.TermOk) (hroster : s.RosterOk)
    (hstate : s.bu.state ≠ .active) :
    s.activated.Viewed s.activated.viewedStations s.activated.firstView := by
  obtain ⟨hvacant, _⟩ := hterm
  obtain ⟨hholder, hgrant, hqueue, _⟩ := hvacant hstate
  have hroster' : s.activated.RosterOk := hroster
  exact State.viewed_firstView hroster' hholder hqueue hgrant

/-- A first view settles the own slots (R153). -/
theorem State.firstView_termOk (hterm : s.TermOk) (hroster : s.RosterOk)
    (hstate : s.bu.state ≠ .active) : s.activated.firstView.TermOk := by
  have hviewed := State.activated_viewed hterm hroster hstate
  obtain ⟨_, _, _, hmerges⟩ := hterm
  have honly := State.Only.firstView s.activated
  have hbu : s.activated.firstView.bu = s.activated.bu := honly .bridge (by decide)
  have hown : s.activated.own ∈ s.activated.viewedStations := State.mem_viewedStations.2 (.inl rfl)
  have hactive : s.activated.firstView.bu.state = .active := by
    rw [hbu]
    rfl
  refine State.termOk_of_active hactive (fun k => ?_) (honly .mergesOk (by decide) hmerges)
  rw [hviewed.slot k, if_pos hown]
  rfl

/-- Before ACTIVE the followed bridge is a peer or none. -/
theorem State.followed_ne_own (hbridge : s.BridgeOk) (hroster : s.RosterOk)
    (hstate : s.bu.state ≠ .active) : s.bu.followed ≠ some s.own := by
  obtain ⟨_, _, _, _, hfollowed, _⟩ := hbridge
  rw [hfollowed, State.bridgeInView_eq_activePeer hstate]
  exact State.activePeer_ne_own hroster

/-- Every command keeps the bridge term. -/
theorem exec_termOk (hinv : s.Inv) (h : exec c s = .next t) : t.TermOk := by
  have hs := hinv.term
  by_cases hc : c = .reset
  · subst hc
    rw [reset_cases h]
    have hreset : State.reset.Inv := resetMeetsTheInvariant
    exact hreset.term
  by_cases hterm : (partsOf c).contains .termOk = false
  · exact exec_kept h hc (p := .termOk) hterm hs
  cases c with
  | req k =>
    rcases req_cases h with rfl | ⟨_, ⟨hactive, rfl⟩ | ⟨hstate, rfl⟩⟩
    · exact hs
    · exact State.Only.linkReact _ .termOk (by decide) (State.requestHere_termOk hs hactive k)
    · exact State.Only.linkReact _ .termOk (by decide) (State.requestAfar_termOk hs hstate k)
  | settleExpiry =>
    rcases settleExpiry_cases h with rfl | ⟨e, hclaiming, ⟨_, rfl⟩ | ⟨_, rfl⟩⟩
    · exact hs
    · refine State.Only.linkReact _ .termOk (by decide) (State.Only.evaluateFollowed _ .termOk
        (by decide) ?_)
      exact State.TermOk.with_bu (s := s.catchUp e) hs (by simp [hclaiming]) nofun
    · have hstate : s.bu.state ≠ .active := by simp [hclaiming]
      rw [State.enterActive_eq (s := s.catchUp e)
        (State.followed_ne_own hinv.bridge hinv.roster hstate), State.evaluateFollowed_activated]
      exact State.Only.linkReact _ .termOk (by decide)
        (State.firstView_termOk (s := s.catchUp e) hs hinv.roster hstate)
  | _ => exact absurd rfl hterm

end

/-! ## Who may stand on the floor (R158) -/

section
variable {s t : State}

/-- A station that may stand on the floor: the own one, or an ADMITTED peer. -/
def State.Member (s : State) (n : Nat) : Prop :=
  n = s.own ∨ ∃ p ∈ s.ru.peers, p.station = n ∧ p.state = .admitted

theorem State.member_iff (s : State) (n : Nat) :
    s.Member n ↔ n = s.own ∨ ∃ x ∈ inView s.ru.peers, x.1 = n := by
  rw [State.Member, inView_eq]
  simp only [List.mem_map, List.mem_filter, decide_eq_true_eq]
  refine or_congr_right ⟨fun ⟨p, hp, hn, hadm⟩ => ⟨_, ⟨p, ⟨hp, hadm⟩, rfl⟩, hn⟩, ?_⟩
  rintro ⟨_, ⟨p, ⟨hp, hadm⟩, rfl⟩, hn⟩
  exact ⟨p, hp, hn, hadm⟩

theorem State.Member.congr {n : Nat} (h : s.Member n) (hown : t.own = s.own)
    (hin : inView t.ru.peers = inView s.ru.peers) : t.Member n := by
  rw [State.member_iff] at h ⊢
  rw [hown, hin]
  exact h

/-- Whatever leaves table and settings alone leaves the stations that may be on the floor. -/
theorem State.Member.kept {n : Nat} {l : List Part} (h : s.Member n) (honly : s.Only l t)
    (hl : l.contains .standings = false ∧ l.contains .loader = false := by decide) : t.Member n := by
  obtain ⟨hstandings, hloader⟩ := hl
  have same {p : Part} (hp : l.contains p = false) : p.same s t :=
    honly p fun hmem => by rw [List.contains_iff_mem.2 hmem] at hp; cases hp
  have hsl : t.sl = s.sl := same (p := .loader) hloader
  exact h.congr (by rw [State.own, hsl]) (inView_of_standings (same (p := .standings) hstandings))

/-- One more station on the floor that may stand on it. -/
theorem State.FloorMembers.join {n : Nat} {l : List Part} (h : s.FloorMembers) (hn : s.Member n)
    (honly : s.Only l t) (hon : t.onFloor ⊆ n :: s.onFloor)
    (hl : l.contains .standings = false ∧ l.contains .loader = false := by decide) :
    t.FloorMembers := by
  intro m hm
  rcases List.mem_cons.1 (hon hm) with rfl | hm
  · exact hn.kept honly hl
  · exact State.Member.kept (h m hm) honly hl

theorem State.onFloor_kept {l : List Part} (honly : s.Only l t)
    (hl : l.contains .floor = false := by decide) : t.onFloor = s.onFloor := by
  obtain ⟨hholder, _, hqueue⟩ := honly .floor fun hmem => by
    rw [List.contains_iff_mem.2 hmem] at hl
    cases hl
  exact (State.onFloor_congr hholder hqueue).1

/-! ## Requests acted on (R159, R160) -/

theorem floorAfter_subset (floor : List Nat) (n : Nat) (k : ReqKind) :
    floorAfter floor n k ⊆ n :: floor := by
  cases k with
  | answer | hangup => exact List.subset_cons_self n floor
  | floor =>
    simp only [floorAfter]
    split
    · exact List.subset_cons_self n floor
    · exact fun m hm => by simpa [or_comm] using hm
  | yield => exact fun m hm => List.mem_cons_of_mem n (List.mem_of_mem_filter hm)

theorem State.actAll_onFloor (hs : s.FloorShape) (w : PerKind Bool) (n : Nat) :
    (s.actAll w n).onFloor ⊆ n :: s.onFloor := by
  have hfloor : (if w.get .floor = true ∧ n ∉ s.onFloor then s.onFloor ++ [n] else s.onFloor) ⊆
      n :: s.onFloor := by
    split
    · exact fun m hm => by simpa [or_comm] using hm
    · exact List.subset_cons_self n _
  rw [(State.actAll_visited hs w n).onFloor_all]
  split
  · exact fun m hm => hfloor (List.mem_of_mem_filter hm)
  · exact hfloor

theorem State.baseline_onFloor (hs : s.FloorShape) (n : Nat) (d : SenderState) :
    (s.baseline n d).onFloor ⊆ n :: s.onFloor :=
  State.actAll_onFloor (s := s.seeToggles n d.toggles) hs d.pending n

theorem State.bridgeHeader_onFloor (hs : s.FloorShape) (n : Nat) (d : SenderState) :
    (s.bridgeHeader n d).onFloor ⊆ n :: s.onFloor := by
  unfold State.bridgeHeader
  split
  · exact List.subset_cons_self n _
  · split
    · exact State.baseline_onFloor hs n d
    · exact State.actAll_onFloor (s := s.seeToggles n d.toggles) hs _ n

/-- A header brings its own station to the floor, nobody else. -/
theorem State.requestHeader_members (hs : s.FloorShape) (h : s.FloorMembers) {n : Nat}
    (hn : s.Member n) (d : SenderState) (x : Option Extras) :
    (s.requestHeader n d x).FloorMembers := by
  have header : (if s.bu.state = .active then s.bridgeHeader n d else s).FloorMembers := by
    split
    · exact h.join hn (State.Only.bridgeHeader s n d) (State.bridgeHeader_onFloor hs n d)
    · exact h
  cases x with
  | none => exact header
  | some x => exact State.Only.takeExtras _ n x .floorMembers (by decide) header

theorem State.handHeader_members (hfloor : s.FloorKept) (h : s.FloorMembers) {f : Frame}
    (hn : s.Member f.header.station) (wasMate : Bool) : (s.handHeader f wasMate).FloorMembers := by
  have judged : s.Only [.role, .bridge, .assembler, .entries, .latches, .floor, .outcomes, .downlink,
      .view] (s.mateEvent (wasMate || f.header.wearer = s.cfg.wearer)).evaluateBridge :=
    (State.Only.mateEvent s _).mono.trans (State.Only.evaluateBridge _).mono
  exact State.requestHeader_members (judged .floorOk (by decide) hfloor).1
    (judged .floorMembers (by decide) h) (hn.kept judged) _ _

/-! ## Notices (R38, R162) -/

/-- An evaluation that leaves the Bridge Unit ACTIVE has changed nothing. -/
theorem State.evaluateState_of_active (h : s.evaluateState.bu.state = .active) :
    s.evaluateState = s := by
  rcases s.evaluateState_cases with he | ⟨_, he⟩ | ⟨_, _, he⟩ | ⟨_, he⟩
  · exact he
  · rw [he] at h
    cases h
  · rw [he] at h
    exact absurd h s.enterClaiming_state_ne_active
  · rw [he] at h
    cases h

/-- Behind a station's notice nobody is on the floor but stations that still may be. -/
theorem State.notice_members (hfloor : s.FloorKept) (hterm : s.TermOk) {n : Nat}
    (h : ∀ m ∈ s.onFloor, m ≠ n → s.Member m) (isMate : Bool) :
    (s.notice n isMate).FloorMembers := by
  have honly := State.Only.notice s n isMate
  by_cases hactive : (s.notice n isMate).bu.state = .active
  · have hoff := State.notice_off_floor hfloor.1 hactive
    have heq := State.notice_eq_leaveFloor hactive
    have hstate : (s.mateEvent isMate).evaluateState.bu.state = .active := by
      have hbu : (s.notice n isMate).bu = (s.mateEvent isMate).evaluateBridge.bu := by
        rw [heq]
        simp
      rw [hbu, State.evaluateBridge, State.evaluateFollowed_eq] at hactive
      exact hactive
    have hjudged : s.Only [.role, .bridge, .downlink, .view] (s.mateEvent isMate).evaluateBridge := by
      rw [State.evaluateBridge, State.evaluateState_of_active hstate]
      exact (State.Only.mateEvent s isMate).mono.trans (State.Only.evaluateFollowed _).mono
    have hshape := (hjudged .floorOk (by decide) hfloor).1
    have hon : (s.notice n isMate).onFloor ⊆ s.onFloor := by
      rw [heq, (State.leaveFloor_onFloor hshape n).1, State.onFloor_kept hjudged]
      exact List.filter_subset_self _
    intro m hm
    have hne : m ≠ n := fun hmn => hoff (hmn ▸ hm)
    exact State.Member.kept (h m (hon hm) hne) honly
  · obtain ⟨hvacant, _⟩ := honly .termOk (by decide) hterm
    obtain ⟨hholder, _, hqueue, _⟩ := hvacant hactive
    intro m hm
    rw [State.onFloor, hholder, hqueue] at hm
    exact absurd hm List.not_mem_nil

end

end Sys2Proof.Machine
end

section
/-! PROOFS. Every command keeps the floor, and every step the bridge and the floor. -/

namespace Sys2Proof.Machine

/-! ## Arrivals -/

section
variable {s t : State} {f : Frame}

/-- A change of one station's entries that leaves them ADMITTED. -/
theorem State.FloorMembers.mapPeer {n : Nat} {g : Peer → Peer} (h : s.FloorMembers)
    (hstation : ∀ p, (g p).station = p.station) (hstate : ∀ p, (g p).state = .admitted) :
    (s.mapPeer n g).FloorMembers := by
  refine fun m hm => (h m hm).imp_right fun ⟨p, hp, hpm, hadm⟩ =>
    ⟨_, List.mem_map_of_mem hp, ?_, ?_⟩
  · split
    · exact (hstation p).trans hpm
    · exact hpm
  · split
    · exact hstate p
    · exact hadm

/-- The station of entries made ADMITTED may stand on the floor. -/
theorem State.member_mapPeer {n : Nat} {g : Peer → Peer} {p : Peer} (hp : s.peer n = some p)
    (hstation : ∀ p, (g p).station = p.station) (hstate : ∀ p, (g p).state = .admitted) :
    (s.mapPeer n g).Member n := by
  obtain ⟨hmem, hn⟩ := findPeer_some hp
  refine .inr ⟨_, List.mem_map_of_mem hmem, ?_, ?_⟩
  · rw [if_pos hn]
    exact (hstation p).trans hn
  · rw [if_pos hn]
    exact hstate p

theorem State.FloorMembers.addPeer (h : s.FloorMembers) (p : Peer) : (s.addPeer p).FloorMembers :=
  fun m hm => (h m hm).imp_right fun ⟨q, hq, hrest⟩ => ⟨q, mem_insertPeer.2 (.inr hq), hrest⟩

theorem State.member_addPeer {p : Peer} (h : p.state = .admitted) : (s.addPeer p).Member p.station :=
  .inr ⟨p, mem_insertPeer.2 (.inl rfl), rfl, h⟩

/-- An admission brings at most the station admitted to the floor (R33, R151). -/
theorem State.admission_members (hfloor : s.FloorKept) (h : s.FloorMembers)
    (hn : s.Member f.header.station) : (s.admission f).FloorMembers := by
  set u := ((s.setFlag .peerJoined).mapPeer f.header.station
    (fun p => { p with queue := some (RxQueue.cleared QueueCounts.zero) })).askPresence with hu
  have hin : inView u.ru.peers = inView s.ru.peers := inView_map fun p _ => by
    split <;> exact .inl rfl
  have hmembers : u.FloorMembers := fun m hm => State.Member.congr (h m hm) rfl hin
  have hmember : u.Member f.header.station := hn.congr rfl hin
  unfold State.admission
  dsimp only
  split
  · have honly := State.Only.baseline u f.header.station f.header.sender
    exact State.handHeader_members (honly .floorOk (by decide) hfloor)
      (hmembers.join hmember honly (State.baseline_onFloor (s := u) hfloor.1 _ _))
      (hmember.kept honly) false
  · exact State.handHeader_members (s := u) hfloor hmembers hmember false

theorem State.introduceHailed_members (hfloor : s.FloorKept) (h : s.FloorMembers) {p : Peer}
    (hp : s.peer f.header.station = some p) (counted : Bool) :
    (s.introduceHailed f counted).FloorMembers := by
  unfold State.introduceHailed
  dsimp only
  split
  · cases counted with
    | true =>
      exact State.admission_members (s := s.mapPeer f.header.station _) hfloor
        (h.mapPeer (fun _ => rfl) fun _ => rfl) (State.member_mapPeer hp (fun _ => rfl) fun _ => rfl)
    | false =>
      exact State.admission_members (s := s.mapPeer f.header.station _) hfloor
        (h.mapPeer (fun _ => rfl) fun _ => rfl) (State.member_mapPeer hp (fun _ => rfl) fun _ => rfl)
  · exact h

theorem State.introduceNew_members (hfloor : s.FloorKept) (h : s.FloorMembers) :
    (s.introduceNew f).FloorMembers := by
  unfold State.introduceNew
  split
  · split
    · exact State.Only.tableFull s .floorMembers (by decide) h
    · exact State.admission_members (s := s.addPeer _) hfloor (h.addPeer _)
        (State.member_addPeer (p := newPeer s.own s.now f .admitted false) rfl)
  · exact h

theorem State.pairNew_members (hfloor : s.FloorKept) (h : s.FloorMembers)
    (hnone : s.peer f.header.station = none) (heard : List Nat) :
    (s.pairNew f heard).FloorMembers := by
  unfold State.pairNew
  split
  · exact State.Only.tableFull s .floorMembers (by decide) h
  · have hoff : (s.undepart f.header.station).FloorMembers := h
    dsimp only
    split
    · exact State.admission_members (s := (s.undepart f.header.station).addPeer _) hfloor
        (hoff.addPeer _) (State.member_addPeer (p := newPeer s.own s.now f .admitted true) rfl)
    · exact State.introduceHailed_members (s := (s.undepart f.header.station).addPeer _) hfloor
        (hoff.addPeer _) (findPeer_insertPeer_eq (p := newPeer s.own s.now f .hailed true) rfl
          (findPeer_none.1 hnone)) true

theorem State.pairHailed_members (hfloor : s.FloorKept) (h : s.FloorMembers) {p : Peer}
    (hp : s.peer f.header.station = some p) (heard : List Nat) :
    (s.pairHailed f heard).FloorMembers := by
  set u := (s.undepart f.header.station).mapPeer f.header.station
    (fun p => p.renewed s.own s.now f) with hu
  have hfound : u.peer f.header.station = some (p.renewed s.own s.now f) := by
    have := findPeer_updatePeer_eq (n := f.header.station) (fun p : Peer => p.renewed s.own s.now f)
      (fun _ => rfl) s.ru.peers
    exact this.trans (congrArg (Option.map _) hp)
  have hrenewed : u.FloorMembers := by
    refine fun m hm => (h m hm).imp_right fun ⟨q, hq, hqm, hadm⟩ =>
      ⟨_, List.mem_map_of_mem hq, ?_, ?_⟩
    · split
      · exact hqm
      · exact hqm
    · split
      · exact hadm
      · exact hadm
  unfold State.pairHailed
  dsimp only
  split
  · have again (q : Peer) : ({ q with state := .admitted } : Peer).station = q.station := rfl
    have hnamed : u.Only [.standings, .floorMembers, .entries]
        (u.mapPeer f.header.station (fun q => { q with state := .admitted })) :=
      State.Only.mapPeer u again
    exact State.admission_members (hnamed .floorOk (by decide) hfloor)
      (hrenewed.mapPeer again fun _ => rfl) (State.member_mapPeer hfound again fun _ => rfl)
  · exact State.introduceHailed_members (s := u) hfloor hrenewed hfound true

theorem State.refreshPeer_members (hfloor : s.FloorKept) (h : s.FloorMembers) {p : Peer}
    (hp : s.peer f.header.station = some p) : (s.refreshPeer f p).FloorMembers := by
  have handed := State.handHeader_members (s := s.mapPeer f.header.station (fun q => q.refreshed s f))
    hfloor (h.mapPeer (fun _ => rfl) fun _ => rfl)
    (State.member_mapPeer hp (fun _ => rfl) fun _ => rfl) (s.isMate p)
  exact State.Only.sections _ f .floorMembers (by decide) handed

/-- The removal of an entry takes its station off the floor, if it was there (R162). -/
theorem State.removePeer_members (hfloor : s.FloorKept) (hterm : s.TermOk) (h : s.FloorMembers)
    (hroster : s.RosterOk) {n : Nat} {p : Peer} (hp : s.peer n = some p) :
    (s.removePeer p).FloorMembers := by
  unfold State.removePeer
  dsimp only
  split
  · have hterm' : (s.without p.station).TermOk :=
      State.Only.of_fewer_peers s List.filter_sublist.subset .termOk (by decide) hterm
    refine State.notice_members (s := s.without p.station) hfloor hterm' (fun m hm hne => ?_) _
    refine (h m hm).imp_right fun ⟨q, hq, hqm, hadm⟩ => ⟨q, List.mem_filter.2 ⟨hq, ?_⟩, hqm, hadm⟩
    exact decide_eq_true (hqm ▸ hne)
  · next hseen =>
    exact fun m hm => State.Member.congr (h m hm) rfl (State.inView_without_hailed hroster hp hseen)

theorem State.leaveFrame_members (hfloor : s.FloorKept) (hterm : s.TermOk) (h : s.FloorMembers)
    (hroster : s.RosterOk) (n : Nat) : (s.leaveFrame n).FloorMembers := by
  unfold State.leaveFrame
  cases hp : s.peer n with
  | none => exact h
  | some p =>
    have hflagged : (s.removePeer p).Only [] ((s.removePeer p).setFlagIf p.seen .peerLeft) :=
      State.Only.setFlagIf _ _ _
    exact State.Only.depart _ n .floorMembers (by decide) (hflagged .floorMembers (by decide)
      (State.removePeer_members hfloor hterm h hroster hp))

/-- Whatever arrives, nobody is on the floor but stations that may be. -/
theorem State.takeArrival_members (hfloor : s.FloorKept) (hterm : s.TermOk) (h : s.FloorMembers)
    (hroster : s.RosterOk) : (s.takeArrival f).FloorMembers := by
  by_cases hkind : f.header.kind = .leave
  · rw [State.takeArrival_of_leave hkind]
    exact State.leaveFrame_members hfloor hterm h hroster _
  by_cases hcode : s.OwnCode f
  · have pairing := em (s.ru.window.isSome = true ∧ ∃ code heard, f.body = .hail code heard)
    cases hp : s.peer f.header.station with
    | none =>
      obtain ⟨hhail, hother⟩ := State.takeArrival_of_none hkind hcode hp
      rcases pairing with ⟨hopen, code, heard, hbody⟩ | hpair
      · rw [hhail code heard hbody hopen]
        exact State.pairNew_members hfloor h hp heard
      · rw [hother hpair]
        exact State.introduceNew_members hfloor h
    | some p =>
      by_cases hstate : p.state = .hailed
      · obtain ⟨hhail, hother⟩ := State.takeArrival_of_hailed hkind hcode hp hstate
        rcases pairing with ⟨hopen, code, heard, hbody⟩ | hpair
        · rw [hhail code heard hbody hopen]
          exact State.pairHailed_members hfloor h hp heard
        · rw [hother hpair]
          exact State.introduceHailed_members hfloor h hp false
      · rw [State.takeArrival_of_seen hkind hcode hp hstate]
        exact State.refreshPeer_members hfloor h hp
  · rw [State.takeArrival_of_other_code hkind hcode]
    exact h

end

/-! ## Every command -/

section
variable {c : Instr} {s t : State}

theorem State.FloorOk.kept (h : s.FloorOk) : s.FloorKept := by
  obtain ⟨hnodup, _, hnone, hgrant, hends, _⟩ := h
  refine ⟨⟨hnodup, hnone⟩, hgrant, fun e he => ?_⟩
  rw [he] at hends
  exact of_decide_eq_true hends

theorem State.FloorOk.members (h : s.FloorOk) : s.FloorMembers := by
  obtain ⟨_, _, _, _, _, hmembers⟩ := h
  exact hmembers

/-- The floor has room for the own station and nine peers (R158). -/
theorem floorOk_of_members (hkept : s.FloorKept) (hmembers : s.FloorMembers) (hroster : s.RosterOk) :
    s.FloorOk := by
  obtain ⟨⟨hnodup, hnone⟩, hgrant, hends⟩ := hkept
  obtain ⟨hlen, _⟩ := hroster
  have hsub : s.onFloor ⊆ s.own :: s.ru.peers.map (·.station) := by
    intro n hn
    rcases hmembers n hn with rfl | ⟨p, hp, rfl, _⟩
    · exact .head _
    · exact .tail _ (List.mem_map_of_mem hp)
  have hlength := (List.subperm_of_subset hnodup hsub).length_le
  refine ⟨hnodup, ?_, hnone, hgrant, ?_, hmembers⟩
  · rw [List.length_cons, List.length_map] at hlength
    omega
  · cases he : s.cq.grant with
    | none => rfl
    | some e => exact decide_eq_true (hends e he)

/-- At rest nobody is on the floor. -/
theorem State.Resting.onFloor (h : s.Resting) : s.onFloor = [] := by
  obtain ⟨_, _, _, _, _, _, _, hcq, _⟩ := h
  rw [State.onFloor, hcq]
  rfl

theorem floorMembers_of_empty (h : s.onFloor = []) : s.FloorMembers := by
  intro n hn
  rw [h] at hn
  exact absurd hn List.not_mem_nil

/-- A start of RUNNING finds nobody on the floor. -/
theorem State.startRunning_vacant (hrest : s.Resting) (img : Image) :
    (s.startRunning img).linkReact.FloorKept ∧ (s.startRunning img).linkReact.FloorMembers := by
  obtain ⟨_, _, _, _, _, _, _, hcq, _⟩ := hrest
  have hcq' : (s.startRunning img).linkReact.cq = CallRequest.reset := by simp [hcq]
  refine ⟨.vacant (by rw [hcq']; rfl) (by rw [hcq']; rfl) (by rw [hcq']; rfl),
    floorMembers_of_empty ?_⟩
  rw [State.onFloor, hcq']
  rfl

theorem exec_floorKept (hinv : s.Inv) (h : exec c s = .next t) : t.FloorKept := by
  have hs := hinv.floor.kept
  by_cases hc : c = .reset
  · subst hc
    rw [reset_cases h]
    exact .vacant rfl rfl rfl
  by_cases hfloor : (partsOf c).contains .floorOk = false
  · exact exec_kept h hc (p := .floorOk) hfloor hs
  cases c with
  | loadingComplete img =>
    rcases loadingComplete_cases h with rfl | ⟨_, f, rfl⟩ | ⟨hloading, _, _, rfl⟩
    · exact hs
    · exact hs
    · have hrest : s.Resting := hinv.atRest.1 (by simp [State.running, hloading])
      exact (State.startRunning_vacant hrest img).1
  | _ => exact absurd rfl hfloor

/-- LEAVE leaves nobody but the station itself on the floor (R165). -/
theorem leave_members (hs : s.FloorMembers) (h : exec .leave s = .next t) : t.FloorMembers := by
  rcases leave_cases h with rfl | ⟨_, rfl⟩
  · exact hs
  · refine State.Only.linkReact _ .floorMembers (by decide) fun n hn => .inl ?_
    have hsl : s.deserted.evaluateFollowed.leaveRequests.sl = s.deserted.evaluateFollowed.sl :=
      State.Only.leaveRequests _ .loader (by decide)
    have hleft := (s.deserted.evaluateFollowed.leaveRequests_leftBy).floor n
    rw [State.own, hsl]
    refine (hleft ?_).1
    rcases List.mem_append.1 hn with hn | hn
    · exact .inl (Option.mem_toList.1 hn)
    · exact .inr hn

/-- The own request at an ACTIVE bridge brings the own station to the floor at most (R146). -/
theorem State.requestHere_members (hfloor : s.FloorKept) (h : s.FloorMembers) (k : ReqKind) :
    (s.requestHere k).FloorMembers := by
  set u := (s.setSlot k { s.cq.slots.get k with late := false }).record k .accepted with hu
  have hmembers : u.FloorMembers := h
  refine hmembers.join (t := u.act k s.own) (n := s.own) (.inl rfl) (State.Only.act u k s.own) ?_
  rw [(State.act_onFloor (s := u) hfloor.1 k s.own).1]
  exact floorAfter_subset _ _ k

/-- The settle expiry brings to the floor stations in view alone (R153). -/
theorem settleExpiry_members (hinv : s.Inv) (h : exec .settleExpiry s = .next t) :
    t.FloorMembers := by
  have hs := hinv.floor.members
  rcases settleExpiry_cases h with rfl | ⟨e, hclaiming, ⟨_, rfl⟩ | ⟨_, rfl⟩⟩
  · exact hs
  · exact State.Only.linkReact _ .floorMembers (by decide) (State.Only.evaluateFollowed _ .floorMembers
      (by decide) (State.Only.enterYielded (s.catchUp e) .floorMembers (by decide) hs))
  · have hstate : s.bu.state ≠ .active := by simp [hclaiming]
    rw [State.enterActive_eq (s := s.catchUp e)
      (State.followed_ne_own hinv.bridge hinv.roster hstate), State.evaluateFollowed_activated]
    refine State.Only.linkReact _ .floorMembers (by decide) fun n hn => ?_
    have hviewed := State.activated_viewed (s := s.catchUp e) hinv.term hinv.roster hstate
    rw [hviewed.onFloor] at hn
    have hmember : (s.catchUp e).activated.Member n :=
      (State.mem_viewedStations.1 (List.mem_filter.1 hn).1).imp_right
        fun ⟨p, hp, hadm, hpn⟩ => ⟨p, hp, hpn, hadm⟩
    exact hmember.kept (State.Only.firstView _)

/-- Every command leaves on the floor only stations that may be there. -/
theorem exec_floorMembers (hinv : s.Inv) (h : exec c s = .next t) : t.FloorMembers := by
  have hs := hinv.floor.members
  have hkept := hinv.floor.kept
  by_cases hc : c = .reset
  · subst hc
    rw [reset_cases h]
    exact floorMembers_of_empty rfl
  by_cases hmembers : (partsOf c).contains .floorMembers = false
  · exact exec_kept h hc (p := .floorMembers) hmembers hs
  cases c with
  | loadingComplete img =>
    rcases loadingComplete_cases h with rfl | ⟨_, f, rfl⟩ | ⟨hloading, _, _, rfl⟩
    · exact hs
    · exact hs
    · have hrest : s.Resting := hinv.atRest.1 (by simp [State.running, hloading])
      exact (State.startRunning_vacant hrest img).2
  | frameArrival bytes good =>
    rcases frameArrival_cases h with rfl | ⟨_, rfl⟩
    · exact hs
    · refine State.Only.linkReact _ .floorMembers (by decide) ?_
      rcases s.filterFrame_cases bytes good with ⟨lp, cl, hdropped⟩ | ⟨f, _, _, htaken⟩
      · rw [hdropped]
        exact hs
      · rw [htaken]
        exact State.takeArrival_members hkept hinv.term hs hinv.roster
  | leave => exact leave_members hs h
  | req k =>
    rcases req_cases h with rfl | ⟨_, ⟨_, rfl⟩ | ⟨_, rfl⟩⟩
    · exact hs
    · exact State.Only.linkReact _ .floorMembers (by decide) (State.requestHere_members hkept hs k)
    · exact State.Only.linkReact _ .floorMembers (by decide)
        (State.Only.requestAfar s k .floorMembers (by decide) hs)
  | peerLossExpiry n =>
    rcases peerLossExpiry_cases h with rfl | ⟨p, e, _, _, rfl⟩
    · exact hs
    · have lost := State.Only.peerLost s n e
      refine State.notice_members (lost .floorOk (by decide) hkept)
        (lost .termOk (by decide) hinv.term) (fun m hm hne => ?_) _
      refine (hs m hm).imp_right fun ⟨q, hq, hqm, hadm⟩ => ⟨q, ?_, hqm, hadm⟩
      have hother : q.station ≠ n := hqm ▸ hne
      exact List.mem_map.2 ⟨q, hq, if_neg hother⟩
  | lostRemovalExpiry n =>
    rcases lostRemovalExpiry_cases h with rfl | ⟨p, e, hp, _, rfl⟩
    · exact hs
    · exact State.removePeer_members (s := s.catchUp e)
        (State.Only.catchUp s e .floorOk (by decide) hkept) hinv.term hs hinv.roster hp
  | hailedExpiry n =>
    rcases hailedExpiry_cases h with rfl | ⟨p, e, hp, _, rfl⟩
    · exact hs
    · exact State.removePeer_members (s := s.catchUp e)
        (State.Only.catchUp s e .floorOk (by decide) hkept) hinv.term hs hinv.roster hp
  | settleExpiry => exact settleExpiry_members hinv h
  | _ => exact absurd rfl hmembers

end

/-- Settles O59: the bridge by its evaluations, the term by what stands outside ACTIVE, the floor by
who may stand on it. -/
theorem stepKeepsBridgeAndFloor : Obligations.StepKeepsBridgeAndFloor := by
  intro s t hinv h
  rcases step_cases hinv h with rfl | ⟨c, r, hr, hexec⟩
  · rw [State.tick]
    split
    · exact ⟨hinv.bridge, hinv.term, hinv.floor⟩
    · refine ⟨hinv.bridge, hinv.term, ?_⟩
      obtain ⟨hshape, hgrant, hends⟩ := hinv.floor.kept
      exact floorOk_of_members ⟨hshape, hgrant, fun e he => (hends e he).trans
        (Nat.add_le_add_right (Nat.le_succ _) _)⟩ hinv.floor.members hinv.roster
  · exact ⟨exec_bridgeOk hr hexec, exec_termOk hr hexec, floorOk_of_members
      (exec_floorKept hr hexec) (exec_floorMembers hr hexec) (exec_rosterOk hr hexec)⟩

end Sys2Proof.Machine
end
